-- ==== Sys2Proof/Config.lean ====
section
/-! DEFINITION. The implementation parameters of 00_scope.md rule R6. The one OPEN parameter,
`BASE`, is no constant: it stands in the state (`State.basePage`, log 1), so that every claim over
all states holds for every base. Where a parameter is the width of a type (11, 16, 17) it stands
there as a number. No behaviour of the block is left open, so there is no free value. -/

namespace Sys2Proof.Config

/-- `ID_W`: identifier width (R6). -/
abbrev idW : Nat := 11
/-- `MAX_DLC`: most payload bytes (R6). -/
abbrev maxDlc : Nat := 8
/-- `CRC_W`: CRC width (R6). -/
abbrev crcW : Nat := 16
/-- `POLY_LEN`: generator length (R6). -/
abbrev polyLen : Nat := 17
/-- `RUN`: stuffing run length (R6). -/
abbrev stuffRun : Nat := 5
/-- `FRAME_BITS`: serialised frame length (R6, R51). -/
abbrev frameBits : Nat := 116
/-- `BUF_BITS`: capacity of RAW and of STF (R6, R19). -/
abbrev bufBits : Nat := 160
/-- `N_SLOTS`: contender slots (R6). -/
abbrev nSlots : Nat := 32
/-- `N_HIST`: history entries (R6). -/
abbrev nHist : Nat := 16
/-- `RAW_ARB_W`: arbitration width in raw mode (R6, R72). -/
abbrev rawArbW : Nat := 11
/-- Longest identifier-only string ID_EXTRACT accepts (R20, R71). -/
abbrev maxIdsLen : Nat := 16
/-- Bytes of the register window (R13, R27). -/
abbrev windowBytes : Nat := 4096
/-- Bytes of the only defined access width (R30). -/
abbrev accessBytes : Nat := 4

end Sys2Proof.Config
end

