-- ==== Sys2Proof/Word.lean ====
section
/-! DEFINITION. The value types of the block: a host register's word and a bit string
(00_scope.md rules R6, R7, R8). -/

namespace Sys2Proof

/-- A host register's 32-bit value; bit 0 is the least significant (R6 `REG_W`, R7). -/
abbrev Word := BitVec 32

/-- A bit string, leftmost bit first: index 0 is the head of the list (R8). `false` is 0, `true` is 1. -/
abbrev Bits := List Bool

end Sys2Proof
end

