-- ==== Sys2Proof/Syntax.lean ====
section
/-! DEFINITION. The commands of the block, one constructor per row of opcode_table.json
(30_encoding.md rules R45 to R47). -/

namespace Sys2Proof

/-- A command. Commands have no immediate and no register fields: the only operand bits are the
modifiers FE and SM (R47). -/
inductive Instr where
  /-- NOP (R77). -/
  | nop
  /-- CRC_GEN, with FE (R60). -/
  | crcGen (fe : Bool)
  /-- CRC_CHECK, with FE (R61). -/
  | crcCheck (fe : Bool)
  /-- PACK (R66). -/
  | pack
  /-- UNPACK (R67). -/
  | unpack
  /-- STUFF (R68). -/
  | stuff
  /-- DESTUFF (R69). -/
  | destuff
  /-- ID_STUFF (R70). -/
  | idStuff
  /-- ID_EXTRACT (R71). -/
  | idExtract
  /-- ARBITRATE, with SM (R75). -/
  | arbitrate (sm : Bool)
  deriving DecidableEq, Repr

end Sys2Proof
end

