-- ==== Sys2Proof/WellFormed.lean ====
section
/-! DEFINITION. What is well formed: a command, a command word (30_encoding.md rule R48) and a host
access (20_memory.md rule R30). These are the rules' own conditions, written apart from the decoder
and from the access operations, so that claims can compare the two. -/

namespace Sys2Proof

/-- Every command is well formed: its only operands are single bits (R47), and a modifier on a
command that does not take it cannot be written down. -/
def Instr.wellFormed : Instr → Bool
  | .nop => true
  | .crcGen _ => true
  | .crcCheck _ => true
  | .pack => true
  | .unpack => true
  | .stuff => true
  | .destuff => true
  | .idStuff => true
  | .idExtract => true
  | .arbitrate _ => true

/-- A word that spells a command: none of the four cases of R48 holds. -/
def legalWord (w : Word) : Bool :=
  decide (w.toNat % 256 ≤ 0x09)
    && decide (w.toNat / 1024 = 0)
    && (!w.getLsbD 8 || w.toNat % 256 == 0x01 || w.toNat % 256 == 0x02)
    && (!w.getLsbD 9 || w.toNat % 256 == 0x09)

/-- An access that is part of the block's interface: 32 bits wide, word-aligned and inside the
window at `base` (R30). `size` is in bytes. -/
def legalAccess (base addr size : Nat) : Bool :=
  decide (size = 4) && decide (addr % 4 = 0)
    && decide (base ≤ addr) && decide (addr < base + Config.windowBytes)

end Sys2Proof
end

