-- ==== Sys2Proof/Decode.lean ====
section
/-! DEFINITION. The decoder of a command word (30_encoding.md rules R45 to R49), total and rejecting
by name, and the encoder written from the same opcode map (R46). -/

namespace Sys2Proof

/-- Why a word spells no command (the four cases of R48). -/
inductive DecodeError where
  /-- OP is in 0x0A..0xFF (R48 case 1). -/
  | opcode
  /-- One of bits [31:10] is 1 (R48 case 2). -/
  | reservedBits
  /-- FE = 1 on a command other than CRC_GEN and CRC_CHECK (R48 case 3). -/
  | misplacedFe
  /-- SM = 1 on a command other than ARBITRATE (R48 case 4). -/
  | misplacedSm
  deriving DecidableEq, Repr

/-- OP: bits [7:0] of the word (R45). -/
def opField (w : Word) : Nat := (w.extractLsb' 0 8).toNat

/-- FE: bit 8 of the word (R45). -/
def feField (w : Word) : Bool := w.getLsbD 8

/-- SM: bit 9 of the word (R45). -/
def smField (w : Word) : Bool := w.getLsbD 9

/-- Bits [31:10] of the word (R45). -/
def reservedField (w : Word) : BitVec 22 := w.extractLsb' 10 22

/-- FE may be set only with OP 0x01 or 0x02 (R45). -/
def takesFe (op : Nat) : Bool := op == 0x01 || op == 0x02

/-- SM may be set only with OP 0x09 (R45). -/
def takesSm (op : Nat) : Bool := op == 0x09

/-- The opcode map (R46). -/
def instrOf (op : Nat) (fe sm : Bool) : Option Instr :=
  match op with
  | 0x00 => some .nop
  | 0x01 => some (.crcGen fe)
  | 0x02 => some (.crcCheck fe)
  | 0x03 => some .pack
  | 0x04 => some .unpack
  | 0x05 => some .stuff
  | 0x06 => some .destuff
  | 0x07 => some .idStuff
  | 0x08 => some .idExtract
  | 0x09 => some (.arbitrate sm)
  | _ => none

/-- The decoder (R49). -/
def decode (w : Word) : Except DecodeError Instr :=
  match instrOf (opField w) (feField w) (smField w) with
  | none => .error .opcode
  | some i =>
    if reservedField w ≠ 0 then .error .reservedBits
    else if feField w && !takesFe (opField w) then .error .misplacedFe
    else if smField w && !takesSm (opField w) then .error .misplacedSm
    else .ok i

/-- A command word laid out by R45 from its three fields. -/
def cmdWord (op : Nat) (fe sm : Bool) : Word :=
  BitVec.ofNat 32 (op + 256 * fe.toNat + 512 * sm.toNat)

/-- The encoder (R46): the word that spells a command. -/
def encode : Instr → Word
  | .nop => cmdWord 0x00 false false
  | .crcGen fe => cmdWord 0x01 fe false
  | .crcCheck fe => cmdWord 0x02 fe false
  | .pack => cmdWord 0x03 false false
  | .unpack => cmdWord 0x04 false false
  | .stuff => cmdWord 0x05 false false
  | .destuff => cmdWord 0x06 false false
  | .idStuff => cmdWord 0x07 false false
  | .idExtract => cmdWord 0x08 false false
  | .arbitrate sm => cmdWord 0x09 false sm

/-- The command word of an opcode-table row: the table's bit 0 is the word's bit 0, and every bit
above `nbits` is 0. A command is one whole word, so there is no byte order to choose (R31, R45). -/
def tableWord (nbits w : Nat) : Word := BitVec.ofNat 32 (w % 2 ^ nbits)

/-- What the decoder reads from a table row's bits; none where it refuses. -/
def decodeTableWord (nbits w : Nat) : Option Instr :=
  match decode (tableWord nbits w) with
  | .ok i => some i
  | .error _ => none

end Sys2Proof
end

