-- ==== Sys2Proof/Machine/State.lean ====
section
/-! DEFINITION. The state of the block (10_state.md): exactly the registers of rule R13, and beside
them the model's own three fields for what stands outside the block: its base address, the host
accesses to come, and the values host reads have returned (logs 1, 2, 3). -/

namespace Sys2Proof.Machine

/-- STATUS (R18), by its fields; every other bit of the register reads 0 (log 7). -/
structure Status where
  /-- ERR, bit 0. -/
  err : Bool
  /-- MATCH, bit 1. -/
  matched : Bool
  /-- NONE, bit 2. -/
  noneSet : Bool
  /-- TIE, bit 3. -/
  tie : Bool
  /-- ECODE, bits [11:8]. -/
  ecode : BitVec 4
  deriving DecidableEq, Repr

/-- The causes of a command error (60_exceptions.md rule R80). -/
inductive CmdError where
  /-- E_ILLEGAL: the word spells no command. -/
  | illegal
  /-- E_PAYLOAD: DLC > 8. -/
  | payload
  /-- E_FIELD_LEN: IDS_LEN > 16. -/
  | fieldLen
  /-- E_ID_RANGE: the destuffed identifier exceeds 0x7FF. -/
  | idRange
  /-- E_LENGTH: a length register outside what the command accepts. -/
  | length
  /-- E_OVERFLOW: the stuffed string exceeds 160 bits. -/
  | overflow
  deriving DecidableEq, Repr

/-- The names of the register map (R13). -/
inductive Reg where
  | cmd | status | poly | id | dlc | ack | crc | round | sender | crcCalc
  | rawLen | stfLen | ids | idsLen
  | contMask | winSlot | survMask | loseMask | arbWidth
  | data (k : Fin 8)
  | raw (k : Fin 5)
  | stf (k : Fin 5)
  | slotId (s : Fin 32)
  | histCont (p : Fin 16)
  | histBits (p : Fin 16)
  deriving DecidableEq, Repr

/-- What the outside does to the block. An address is a plain number and a size is in bytes, so that
the accesses R30 excludes can be written down and refused. -/
inductive HostEvent where
  /-- The reset input is asserted and released (R88, R89). -/
  | reset
  /-- A host read (R28). -/
  | read (addr size : Nat)
  /-- A host write (R29). -/
  | write (addr size : Nat) (value : Word)
  deriving DecidableEq, Repr

/-- A bit buffer: five words (R19). -/
abbrev Buffer := Vector Word 5

/-- Sixteen history registers (R24). -/
abbrev History := Vector Word 16

/-- The state: the registers of R13 at their implemented widths (R16), then the model's own fields.
CMD holds nothing: a write to it executes and a read of it gives 0 (R17; log 8). -/
structure State where
  status : Status
  poly : BitVec 16
  id : BitVec 11
  dlc : BitVec 4
  ack : BitVec 1
  crc : BitVec 16
  round : BitVec 16
  sender : BitVec 8
  crcCalc : BitVec 16
  rawLen : BitVec 8
  stfLen : BitVec 8
  ids : BitVec 16
  idsLen : BitVec 5
  contMask : Word
  winSlot : BitVec 5
  survMask : Word
  loseMask : Word
  arbWidth : BitVec 5
  data : Vector (BitVec 8) 8
  raw : Buffer
  stf : Buffer
  slotId : Vector (BitVec 11) 32
  histCont : History
  histBits : History
  /-- The model's own: `BASE` / 4096 (R6, R34; log 1). No step changes it. -/
  basePage : Nat
  /-- The model's own: host accesses and resets to come, in program order (R35; log 2). -/
  pending : List HostEvent
  /-- The model's own: the values host reads returned, oldest first (R28; log 3). -/
  observed : List Word
  deriving DecidableEq, Repr

/-- `BASE`: 4 KiB aligned (R34). -/
def State.base (s : State) : Nat := Config.windowBytes * s.basePage

/-- The block at base `page * 4096` right after reset (R13, R88): POLY = 0x1021, all else 0. -/
def State.resetAt (page : Nat) : State where
  status := { err := false, matched := false, noneSet := false, tie := false, ecode := 0 }
  poly := 0x1021
  id := 0
  dlc := 0
  ack := 0
  crc := 0
  round := 0
  sender := 0
  crcCalc := 0
  rawLen := 0
  stfLen := 0
  ids := 0
  idsLen := 0
  contMask := 0
  winSlot := 0
  survMask := 0
  loseMask := 0
  arbWidth := 0
  data := Vector.replicate 8 0
  raw := Vector.replicate 5 0
  stf := Vector.replicate 5 0
  slotId := Vector.replicate 32 0
  histCont := Vector.replicate 16 0
  histBits := Vector.replicate 16 0
  basePage := page
  pending := []
  observed := []

/-- The machine right after reset. Base page 0 is a DESIGN CHOICE (log 1): the spec leaves `BASE`
open, and no statement rests on this value. -/
def State.reset : State := State.resetAt 0

/-- Why the machine is stuck. -/
inductive Fault where
  /-- Raised by ARBITRATE alone, if its running group becomes empty: the source's "defensive guard",
  stuck by 93_implementation_defined.md I2 and unreachable by R76 item 2. Safe: no run meets it. -/
  | emptyGroup
  deriving DecidableEq, Repr

/-- Why the model has no meaning for an access. -/
inductive Refusal where
  /-- Raised by an arm of exec whose command has no meaning yet (none is left). Safe. -/
  | notModelled (mnemonic : String)
  /-- Raised by a host access of another width than 32 bits (R30; 93 I5). Safe. -/
  | accessWidth
  /-- Raised by a host access outside the register window (R30; 93 I5). Safe. -/
  | accessOutsideWindow
  /-- Raised by a host access at an address that is no multiple of 4 (R30; 93 I5). Safe. -/
  | accessMisaligned
  deriving DecidableEq, Repr

/-- The outcome of a step or of a command. -/
abbrev Result := Host.Outcome State Fault Refusal

end Sys2Proof.Machine
end

