-- ==== Sys2Proof/Machine/Flags.lean ====
section
/-! DEFINITION. The values commands give STATUS (10_state.md rule R18; 60_exceptions.md rules R79 to
R81). Every command rewrites all of STATUS, so each value is given whole. -/

namespace Sys2Proof.Machine

/-- The word a host read of STATUS returns (R18): reserved bits 0. -/
def Status.toWord (st : Status) : Word :=
  BitVec.ofNat 32 (st.err.toNat + 2 * st.matched.toNat + 4 * st.noneSet.toNat + 8 * st.tie.toNat
    + 256 * st.ecode.toNat)

/-- Success with no flag: STATUS = 0 (R77). -/
def Status.clear : Status :=
  { err := false, matched := false, noneSet := false, tie := false, ecode := 0 }

/-- CRC_CHECK's outcome: MATCH and nothing else (R61). -/
def Status.ofMatch (m : Bool) : Status := { Status.clear with matched := m }

/-- ARBITRATE with nothing to arbitrate: NONE (R75). -/
def Status.nothing : Status := { Status.clear with noneSet := true }

/-- ARBITRATE's outcome with contenders: TIE and nothing else (R75). -/
def Status.ofTie (t : Bool) : Status := { Status.clear with tie := t }

/-- ECODE of an error (R80). -/
def CmdError.code : CmdError → BitVec 4
  | .illegal => 1
  | .payload => 2
  | .fieldLen => 3
  | .idRange => 4
  | .length => 5
  | .overflow => 6

/-- A failed command: ERR, the code, every other flag 0 (R79). -/
def Status.ofError (e : CmdError) : Status := { Status.clear with err := true, ecode := e.code }

end Sys2Proof.Machine
end

