-- ==== Sys2Proof/Machine/Ops.lean ====
section
/-! DEFINITION. The named updates of the registers that commands write (10_state.md rule R25), and
taking a command error, the one exception of the block (60_exceptions.md rule R79). There is no
return from an error: the host's next access proceeds normally (R79, R85). -/

namespace Sys2Proof.Machine

/-- STATUS, all of it (R81). -/
def State.setStatus (s : State) (st : Status) : State := { s with status := st }

/-- CRC. -/
def State.setCrc (s : State) (c : BitVec 16) : State := { s with crc := c }

/-- CRC_CALC. -/
def State.setCrcCalc (s : State) (c : BitVec 16) : State := { s with crcCalc := c }

/-- RAW0..RAW4 and RAW_LEN. -/
def State.setRaw (s : State) (b : Buffer) (n : BitVec 8) : State := { s with raw := b, rawLen := n }

/-- STF0..STF4 and STF_LEN. -/
def State.setStf (s : State) (b : Buffer) (n : BitVec 8) : State := { s with stf := b, stfLen := n }

/-- IDS and IDS_LEN. -/
def State.setIds (s : State) (v : BitVec 16) (n : BitVec 5) : State := { s with ids := v, idsLen := n }

/-- ID. -/
def State.setId (s : State) (v : BitVec 11) : State := { s with id := v }

/-- The frame registers UNPACK writes: all but DLC (R67). -/
def State.setFrame (s : State) (id : BitVec 11) (data : Vector (BitVec 8) 8) (ack : BitVec 1)
    (crc round : BitVec 16) (sender : BitVec 8) : State :=
  { s with id := id, data := data, ack := ack, crc := crc, round := round, sender := sender }

/-- The results of an arbitration (R23). -/
def State.setArb (s : State) (win : BitVec 5) (surv lose : Word) (width : BitVec 5) : State :=
  { s with winSlot := win, survMask := surv, loseMask := lose, arbWidth := width }

/-- The history of an arbitration (R24). -/
def State.setHist (s : State) (cont bits : History) : State :=
  { s with histCont := cont, histBits := bits }

/-- The host's accesses still to come. -/
def State.setPending (s : State) (es : List HostEvent) : State := { s with pending := es }

/-- A host read returned `v`. -/
def State.observe (s : State) (v : Word) : State := { s with observed := s.observed ++ [v] }

/-- The end of a command that succeeds: STATUS is written last, the registers before it. -/
def finish (st : Status) (s : State) : Result := .next (s.setStatus st)

/-- `raise CmdError(code)`: STATUS is written and nothing else, and the machine goes on (R79). -/
def raiseCmdError (e : CmdError) (s : State) : Result := .next (s.setStatus (.ofError e))

end Sys2Proof.Machine
end

