-- ==== Sys2Proof/Machine/Control.lean ====
section
/-! DEFINITION. The control command and the illegal word (43_control.md). -/

namespace Sys2Proof.Machine

/-- NOP: clear STATUS (R77). -/
def execNop (s : State) : Result := finish .clear s

/-- A CMD write of a word that spells no command: E_ILLEGAL, always (R78). -/
def illegalWord (s : State) : Result := raiseCmdError .illegal s

end Sys2Proof.Machine
end

