-- ==== Sys2Proof/Machine/Access.lean ====
section
/-! DEFINITION. Host accesses: the register map (10_state.md rule R13), what a read returns and a
write stores (R16, R17; 20_memory.md rules R28, R29), which accesses are refused (R30), and reset
(70_reset_and_hazards.md rules R88, R89). -/

namespace Sys2Proof.Machine

/-- The byte offset of a register in the window (R13). -/
def Reg.offset : Reg → Nat
  | .cmd => 0x000
  | .status => 0x004
  | .poly => 0x008
  | .id => 0x00C
  | .dlc => 0x010
  | .ack => 0x014
  | .crc => 0x018
  | .round => 0x01C
  | .sender => 0x020
  | .crcCalc => 0x024
  | .rawLen => 0x028
  | .stfLen => 0x02C
  | .ids => 0x030
  | .idsLen => 0x034
  | .contMask => 0x038
  | .winSlot => 0x03C
  | .survMask => 0x040
  | .loseMask => 0x044
  | .arbWidth => 0x048
  | .data k => 0x050 + 4 * k.val
  | .raw k => 0x080 + 4 * k.val
  | .stf k => 0x0A0 + 4 * k.val
  | .slotId k => 0x100 + 4 * k.val
  | .histCont p => 0x200 + 4 * p.val
  | .histBits p => 0x240 + 4 * p.val

/-- Member `(off - first) / 4` of a bank of `n + 1` registers at `first`, none outside the bank. -/
def bankIndex (first n off : Nat) : Option (Fin (n + 1)) :=
  if first ≤ off ∧ off < first + 4 * (n + 1) then some (Fin.ofNat (n + 1) ((off - first) / 4)) else none

/-- The register at a word-aligned offset of the window; none at a reserved offset (R13, R34). -/
def regAt (off : Nat) : Option Reg :=
  if off < 0x04C then
    [Reg.cmd, .status, .poly, .id, .dlc, .ack, .crc, .round, .sender, .crcCalc, .rawLen, .stfLen,
      .ids, .idsLen, .contMask, .winSlot, .survMask, .loseMask, .arbWidth][off / 4]?
  else
    ((bankIndex 0x050 7 off).map Reg.data).or <|
      ((bankIndex 0x080 4 off).map Reg.raw).or <|
        ((bankIndex 0x0A0 4 off).map Reg.stf).or <|
          ((bankIndex 0x100 31 off).map Reg.slotId).or <|
            ((bankIndex 0x200 15 off).map Reg.histCont).or <|
              (bankIndex 0x240 15 off).map Reg.histBits

/-- What a host read of a register returns: its implemented bits, 0 elsewhere; CMD reads 0 (R16,
R17, R28). -/
def readReg (s : State) : Reg → Word
  | .cmd => 0
  | .status => s.status.toWord
  | .poly => s.poly.setWidth 32
  | .id => s.id.setWidth 32
  | .dlc => s.dlc.setWidth 32
  | .ack => s.ack.setWidth 32
  | .crc => s.crc.setWidth 32
  | .round => s.round.setWidth 32
  | .sender => s.sender.setWidth 32
  | .crcCalc => s.crcCalc.setWidth 32
  | .rawLen => s.rawLen.setWidth 32
  | .stfLen => s.stfLen.setWidth 32
  | .ids => s.ids.setWidth 32
  | .idsLen => s.idsLen.setWidth 32
  | .contMask => s.contMask
  | .winSlot => s.winSlot.setWidth 32
  | .survMask => s.survMask
  | .loseMask => s.loseMask
  | .arbWidth => s.arbWidth.setWidth 32
  | .data k => s.data[k].setWidth 32
  | .raw k => s.raw[k]
  | .stf k => s.stf[k]
  | .slotId k => s.slotId[k].setWidth 32
  | .histCont p => s.histCont[p]
  | .histBits p => s.histBits[p]

/-- What a host write leaves: an RW register keeps the implemented bits of the value, an RO register
is unchanged (R16, R17, R29). CMD is not written here: a write to it executes. -/
def writeReg (s : State) (v : Word) : Reg → State
  | .cmd => s
  | .status => s
  | .poly => { s with poly := v.setWidth 16 }
  | .id => { s with id := v.setWidth 11 }
  | .dlc => { s with dlc := v.setWidth 4 }
  | .ack => { s with ack := v.setWidth 1 }
  | .crc => { s with crc := v.setWidth 16 }
  | .round => { s with round := v.setWidth 16 }
  | .sender => { s with sender := v.setWidth 8 }
  | .crcCalc => s
  | .rawLen => { s with rawLen := v.setWidth 8 }
  | .stfLen => { s with stfLen := v.setWidth 8 }
  | .ids => { s with ids := v.setWidth 16 }
  | .idsLen => { s with idsLen := v.setWidth 5 }
  | .contMask => { s with contMask := v }
  | .winSlot => s
  | .survMask => s
  | .loseMask => s
  | .arbWidth => s
  | .data k => { s with data := s.data.set k (v.setWidth 8) }
  | .raw k => { s with raw := s.raw.set k v }
  | .stf k => { s with stf := s.stf.set k v }
  | .slotId k => { s with slotId := s.slotId.set k (v.setWidth 11) }
  | .histCont _ => s
  | .histBits _ => s

/-- Why an access is refused, if it is (R30). Which name a doubly wrong access gets is the model's
choice (log 5). -/
def accessRefusal (s : State) (addr size : Nat) : Option Refusal :=
  if size ≠ Config.accessBytes then some .accessWidth
  else if addr < s.base ∨ s.base + Config.windowBytes ≤ addr then some .accessOutsideWindow
  else if addr % 4 ≠ 0 then some .accessMisaligned
  else none

/-- The word a read at a legal address returns; reserved offsets read 0 (R17, R28). -/
def readAt (s : State) (addr : Nat) : Word :=
  match regAt (addr - s.base) with
  | some r => readReg s r
  | none => 0

/-- A write at a legal address other than CMD's (R29). -/
def writeAt (s : State) (addr : Nat) (v : Word) : State :=
  match regAt (addr - s.base) with
  | some r => writeReg s v r
  | none => s

/-- Reset: every register at its reset value (R88, R89). The host's accesses, what it has observed
and `BASE` are not the block's, and stay (log 4). -/
def hostReset (s : State) : Result :=
  .next { State.resetAt s.basePage with pending := s.pending, observed := s.observed }

/-- A host read: it changes no register (R28). -/
def hostRead (s : State) (addr size : Nat) : Result :=
  match accessRefusal s addr size with
  | some r => .refused r
  | none => .next (s.observe (readAt s addr))

/-- A CMD write: execute the command the word spells, or raise E_ILLEGAL (R49). -/
def hostCommand (run : Instr → State → Result) (s : State) (w : Word) : Result :=
  match decode w with
  | .ok i => run i s
  | .error _ => illegalWord s

/-- A host write (R29); `run` executes a command. -/
def hostWrite (run : Instr → State → Result) (s : State) (addr size : Nat) (v : Word) : Result :=
  match accessRefusal s addr size with
  | some r => .refused r
  | none =>
    if addr = s.base + Reg.offset .cmd then hostCommand run s v else .next (writeAt s addr v)

/-- One event of the host's, taken from the front of those to come. With none to come nothing
happens: the block acts only when accessed (R1, R84; log 2). -/
def hostStep (run : Instr → State → Result) (s : State) : Result :=
  match s.pending with
  | [] => .next s
  | .reset :: rest => hostReset (s.setPending rest)
  | .read addr size :: rest => hostRead (s.setPending rest) addr size
  | .write addr size v :: rest => hostWrite run (s.setPending rest) addr size v

end Sys2Proof.Machine
end

