-- ==== Sys2Proof/Machine/Operands.lean ====
section
/-! DEFINITION. How commands read registers as bit strings and write bit strings to registers:
conversions (00_scope.md rule R9), bit buffers (10_state.md rule R19) and the layouts of
30_encoding.md rules R50 to R52. -/

namespace Sys2Proof.Machine

/-- `bits_w(v)`: the `w`-bit string of `v mod 2^w`, most significant bit first (R9). -/
def bitsW (w v : Nat) : Bits := (List.range w).map fun i => v.testBit (w - 1 - i)

/-- `int(s)`: the value of `s` read most significant bit first (R9). -/
def intOf (s : Bits) : Nat := s.foldl (fun acc b => 2 * acc + b.toNat) 0

/-- `s[i..i+n)` (R8). -/
def slice (s : Bits) (i n : Nat) : Bits := (s.drop i).take n

/-- Bit `i` of the string in a buffer: bit `31 - (i mod 32)` of word `i div 32` (R19). -/
def bufBit (b : Buffer) (i : Nat) : Bool := (b[i / 32]?.getD 0).getLsbD (31 - i % 32)

/-- `buf_get(B, n)` (R19). -/
def bufGet (b : Buffer) (n : Nat) : Bits := (List.range n).map (bufBit b)

/-- Word `k` of the buffer that holds `s`, with 0 past the string's end (R19). -/
def bufWord (s : Bits) (k : Nat) : Word :=
  BitVec.ofNat 32 (intOf ((List.range 32).map fun j => s.getD (32 * k + j) false))

/-- `buf_put(B, s)`: every bit of the buffer is written (R19). -/
def bufPut (s : Bits) : Buffer := Vector.ofFn fun k => bufWord s k.val

/-- Payload byte `k` (R14). -/
def State.dataByte (s : State) (k : Nat) : BitVec 8 := s.data[k]?.getD 0

/-- `crc_msg`: the identifier and the first DLC payload bytes (R50). -/
def crcMsg (s : State) : Bits :=
  bitsW 11 s.id.toNat ++ (List.range s.dlc.toNat).flatMap fun k => bitsW 8 (s.dataByte k).toNat

/-- Payload slot `k` of a serialised frame: 0 at and beyond DLC (R51). -/
def payloadSlot (s : State) (k : Nat) : Bits :=
  if k < s.dlc.toNat then bitsW 8 (s.dataByte k).toNat else List.replicate 8 false

/-- The serialised frame, 116 bits (R51). -/
def frameString (s : State) : Bits :=
  bitsW 11 s.id.toNat ++ (List.range 8).flatMap (payloadSlot s)
    ++ bitsW 1 s.ack.toNat ++ bitsW 16 s.crc.toNat ++ bitsW 16 s.round.toNat
    ++ bitsW 8 s.sender.toNat

/-- The string in RAW: its first RAW_LEN bits (R19). -/
def rawString (s : State) : Bits := bufGet s.raw s.rawLen.toNat

/-- The string in STF: its first STF_LEN bits (R19). -/
def stfString (s : State) : Bits := bufGet s.stf s.stfLen.toNat

/-- The identifier-only string in IDS: its low IDS_LEN bits (R21). -/
def idsString (s : State) : Bits := bitsW s.idsLen.toNat s.ids.toNat

/-- The bare identifier as a string (R52). -/
def idString (v : BitVec 11) : Bits := bitsW 11 v.toNat

/-- Field `[i..i+w)` of a serialised frame as a register value (R67). -/
def frameField (w : Nat) (s : Bits) (i : Nat) : BitVec w := BitVec.ofNat w (intOf (slice s i w))

end Sys2Proof.Machine
end

