-- ==== Sys2Proof/Machine/Framer.lean ====
section
/-! DEFINITION. The framer (41_framer.md): stuffing, destuffing, and the commands PACK, UNPACK,
STUFF, DESTUFF, ID_STUFF and ID_EXTRACT. -/

namespace Sys2Proof.Machine

/-- The run after bit `b`: one longer if it repeats, else a new run of 1 (R62, R63). -/
def nextRun (run : Nat) (last b : Bool) : Nat := if 0 < run && b == last then run + 1 else 1

/-- The loop of R62 on the bits left. `last` means nothing while `run` is 0. -/
def stuffFrom (run : Nat) (last : Bool) : Bits → Bits
  | [] => []
  | b :: rest =>
    if nextRun run last b = Config.stuffRun then b :: (!b) :: stuffFrom 0 b rest
    else b :: stuffFrom (nextRun run last b) b rest

/-- `stuff(x)` (R62). -/
def stuffBits (x : Bits) : Bits := stuffFrom 0 false x

/-- The loop of R63 on the bits left. A bit met while `drop` holds is dropped, whatever its value. -/
def destuffFrom (run : Nat) (last drop : Bool) : Bits → Bits
  | [] => []
  | b :: rest =>
    if drop then destuffFrom run last false rest
    else if nextRun run last b = Config.stuffRun then b :: destuffFrom 0 b true rest
    else b :: destuffFrom (nextRun run last b) b false rest

/-- `destuff(y)` (R63). -/
def destuffBits (y : Bits) : Bits := destuffFrom 0 false false y

/-- PACK (R66). -/
def execPack (s : State) : Result :=
  if s.dlc.toNat > Config.maxDlc then raiseCmdError .payload s
  else finish .clear (s.setRaw (bufPut (frameString s)) (BitVec.ofNat 8 Config.frameBits))

/-- UNPACK (R67): DLC keeps the host's value. -/
def execUnpack (s : State) : Result :=
  if s.rawLen.toNat ≠ Config.frameBits then raiseCmdError .length s
  else
    finish .clear
      (s.setFrame (frameField 11 (rawString s) 0)
        (Vector.ofFn fun k => frameField 8 (rawString s) (11 + 8 * k.val))
        (frameField 1 (rawString s) 75)
        (frameField 16 (rawString s) 76)
        (frameField 16 (rawString s) 92)
        (frameField 8 (rawString s) 108))

/-- STUFF (R68): E_LENGTH is checked before E_OVERFLOW (R82). -/
def execStuff (s : State) : Result :=
  if s.rawLen.toNat > Config.bufBits then raiseCmdError .length s
  else if (stuffBits (rawString s)).length > Config.bufBits then raiseCmdError .overflow s
  else
    finish .clear
      (s.setStf (bufPut (stuffBits (rawString s)))
        (BitVec.ofNat 8 (stuffBits (rawString s)).length))

/-- DESTUFF (R69). -/
def execDestuff (s : State) : Result :=
  if s.stfLen.toNat > Config.bufBits then raiseCmdError .length s
  else
    finish .clear
      (s.setRaw (bufPut (destuffBits (stfString s)))
        (BitVec.ofNat 8 (destuffBits (stfString s)).length))

/-- ID_STUFF (R70). -/
def execIdStuff (s : State) : Result :=
  finish .clear
    (s.setIds (BitVec.ofNat 16 (intOf (stuffBits (idString s.id))))
      (BitVec.ofNat 5 (stuffBits (idString s.id)).length))

/-- ID_EXTRACT (R71): E_FIELD_LEN is checked before E_ID_RANGE (R82). -/
def execIdExtract (s : State) : Result :=
  if s.idsLen.toNat > Config.maxIdsLen then raiseCmdError .fieldLen s
  else if intOf (destuffBits (idsString s)) > 0x7FF then raiseCmdError .idRange s
  else finish .clear (s.setId (BitVec.ofNat 11 (intOf (destuffBits (idsString s)))))

end Sys2Proof.Machine
end

