-- ==== Sys2Proof/Machine/Arbitration.lean ====
section
/-! DEFINITION. The bitwise arbitration comparator (42_arbitration.md): keys and width, the
reduction, and the command ARBITRATE. -/

namespace Sys2Proof.Machine

/-- The slots of a mask, ascending (R73). -/
def slotsOf (m : Word) : List Nat := (List.range Config.nSlots).filter fun s => m.getLsbD s

/-- The mask of a list of slots (R72: bit `s` stands for slot `s`). -/
def maskOf (slots : List Nat) : Word := slots.foldl (fun m s => m ||| (1#32 <<< s)) 0

/-- The key of an identifier: raw, or stuffed when SM = 1 (R72). -/
def keyOf (sm : Bool) (v : BitVec 11) : Bits := if sm then stuffBits (idString v) else idString v

/-- The keys of the 32 slots, by slot index (R72). -/
def slotKeys (sm : Bool) (s : State) : List Bits := s.slotId.toList.map (keyOf sm)

/-- `kb(s, p)`: the bit of slot `slot` at position `p`; recessive (1) past its key's end (R72). -/
def keyBit (keys : List Bits) (p slot : Nat) : Bool := (keys.getD slot []).getD p true

/-- `W`: 11 in raw mode, the longest contender's key in stuffed mode (R72). -/
def arbitrationWidth (sm : Bool) (keys : List Bits) (c0 : Word) : Nat :=
  if sm then ((slotsOf c0).map fun s => (keys.getD s []).length).foldl max 0 else Config.rawArbW

/-- One visit of R73: slot `s` meets the running group. -/
def visitSlot (keys : List Bits) (p : Nat) (group : List Nat) (s : Nat) : List Nat :=
  match group with
  | [] => [s]
  | g :: rest =>
    if !keyBit keys p s && keyBit keys p g then [s]
    else if keyBit keys p s == keyBit keys p g then g :: rest ++ [s]
    else g :: rest

/-- The running group after every contender is visited, ascending (R73). -/
def runningGroup (keys : List Bits) (p : Nat) (cont : Word) : List Nat :=
  (slotsOf cont).foldl (visitSlot keys p) []

/-- `HIST_BITS[p]`: the bits the contenders drive (R73). -/
def drivenBits (keys : List Bits) (p : Nat) (cont : Word) : Word :=
  maskOf ((slotsOf cont).filter (keyBit keys p))

/-- The loop of R73 over `n` positions from `p`: the history entries (HIST_CONT, HIST_BITS) in order
and the final contender set, or none where the "defensive guard" stops it. -/
def reduceFrom (keys : List Bits) : Nat → Nat → Word → Option (List (Word × Word) × Word)
  | 0, _, cont => some ([], cont)
  | n + 1, p, cont =>
    match runningGroup keys p cont with
    | [] => none
    | g :: rest =>
      match reduceFrom keys n (p + 1) (maskOf (g :: rest)) with
      | none => none
      | some (hist, final) => some ((cont, drivenBits keys p cont) :: hist, final)

/-- Sixteen history registers from the entries; those at and past the width are 0 (R24, R75). -/
def historyOf (entries : List Word) : History := Vector.ofFn fun p => entries.getD p.val 0

/-- `lowest(m)` for a non-zero mask (R11). -/
def lowest (m : Word) : Nat := (slotsOf m).headD 0

/-- `popcount(m)` (R11). -/
def popcount (m : Word) : Nat := (slotsOf m).length

/-- ARBITRATE (R75). -/
def execArbitrate (sm : Bool) (s : State) : Result :=
  if s.contMask = 0 then
    finish .nothing ((s.setArb 0 0 0 0).setHist (historyOf []) (historyOf []))
  else
    match reduceFrom (slotKeys sm s) (arbitrationWidth sm (slotKeys sm s) s.contMask) 0 s.contMask with
    | none => .fault .emptyGroup
    | some (hist, cont) =>
      finish (.ofTie (decide (1 < popcount cont)))
        ((s.setArb (BitVec.ofNat 5 (lowest cont)) cont (s.contMask &&& ~~~cont)
            (BitVec.ofNat 5 (arbitrationWidth sm (slotKeys sm s) s.contMask))).setHist
          (historyOf (hist.map Prod.fst)) (historyOf (hist.map Prod.snd)))

end Sys2Proof.Machine
end

