-- ==== Sys2Proof/Machine/Crc.lean ====
section
/-! DEFINITION. The CRC-16 generator and checker (40_crc.md): polynomial long division and the
commands CRC_GEN and CRC_CHECK. -/

namespace Sys2Proof.Machine

/-- The generator `G = bits_17(0x10000 | POLY)` (R15). -/
def generator (poly : BitVec 16) : Bits := bitsW 17 (0x10000 ||| poly.toNat)

/-- `A[j] <- A[j] ^ G[j]` for every `j` of `g` (the inner loop of R56). -/
def xorHead : Bits → Bits → Bits
  | a :: as, g :: gs => (a ^^ g) :: xorHead as gs
  | as, [] => as
  | [], _ => []

/-- The outer loop of R56, `n` positions still to visit. A position already visited is 0 and never
read again, so it is dropped (log 10). -/
def divSteps (g : Bits) : Nat → Bits → Bits
  | 0, a => a
  | n + 1, a => divSteps g n (if a.headD false then (xorHead a g).tail else a.tail)

/-- `crc16(M, POLY)` by long division (R56). -/
def crc16 (m : Bits) (poly : BitVec 16) : BitVec 16 :=
  BitVec.ofNat 16 (intOf (divSteps (generator poly) m.length (m ++ List.replicate 16 false)))

/-- `crc_value(fe)` (R59). -/
def crcValue (fe : Bool) (s : State) : BitVec 16 := if fe then 0 else crc16 (crcMsg s) s.poly

/-- CRC_GEN (R60). -/
def execCrcGen (fe : Bool) (s : State) : Result :=
  if s.dlc.toNat > Config.maxDlc then raiseCmdError .payload s
  else finish .clear ((s.setCrc (crcValue fe s)).setCrcCalc (crcValue fe s))

/-- CRC_CHECK (R61): the carried CRC is compared and never written. -/
def execCrcCheck (fe : Bool) (s : State) : Result :=
  if s.dlc.toNat > Config.maxDlc then raiseCmdError .payload s
  else finish (.ofMatch (crcValue fe s == s.crc)) (s.setCrcCalc (crcValue fe s))

/-- One step of the register form, on the message's next bit (R57). -/
def crcRegisterStep (poly r : BitVec 16) (b : Bool) : BitVec 16 :=
  if r.getLsbD 15 ^^ b then (r <<< 1) ^^^ poly else r <<< 1

/-- The bit-serial shift register R57 says equals `crc16`. No command uses it: it is the fast form
that a claim compares with the clear one. -/
def crcRegister (m : Bits) (poly : BitVec 16) : BitVec 16 := m.foldl (crcRegisterStep poly) 0

end Sys2Proof.Machine
end

