-- ==== Sys2Proof/Machine/Dispatch.lean ====
section
/-! DEFINITION. One arm per command: the call of its meaning. -/

namespace Sys2Proof.Machine

def exec (i : Instr) (s : State) : Host.Outcome State Fault Refusal :=
  match i with
  | .nop => Sys2Proof.Machine.execNop s
  | .crcGen fe => Sys2Proof.Machine.execCrcGen fe s
  | .crcCheck fe => Sys2Proof.Machine.execCrcCheck fe s
  | .pack => Sys2Proof.Machine.execPack s
  | .unpack => Sys2Proof.Machine.execUnpack s
  | .stuff => Sys2Proof.Machine.execStuff s
  | .destuff => Sys2Proof.Machine.execDestuff s
  | .idStuff => Sys2Proof.Machine.execIdStuff s
  | .idExtract => Sys2Proof.Machine.execIdExtract s
  | .arbitrate sm => Sys2Proof.Machine.execArbitrate sm s

end Sys2Proof.Machine
end

