-- ==== Sys2Proof/Machine/Step.lean ====
section
/-! DEFINITION. One step: the host's next access takes effect, whole (20_memory.md rules R32, R35). -/

namespace Sys2Proof.Machine

/-- One step of the machine: one host event, with `exec` as the meaning of commands. -/
def step (s : State) : Host.Outcome State Fault Refusal := hostStep exec s

/-- `s` with the CMD write of a table row's word as the host's very next access: the block has no
fetch (R37), so this is where a command comes from (log 2). -/
def State.withFetchWord (s : State) (nbits w : Nat) : State :=
  s.setPending
    (.write (s.base + Reg.offset .cmd) Config.accessBytes (tableWord nbits w) :: s.pending)

end Sys2Proof.Machine
end

