-- ==== Sys2Proof/Machine/Assembly.lean ====
section
/-! DEFINITION. Host programs (30_encoding.md rules R53 to R55): the statements of the spec's host
assembly and the accesses each expands to. The block never sees a statement, only its accesses. -/

namespace Sys2Proof.Machine

/-- A bit buffer named by `wrbits` (R55). -/
inductive BufName where
  | raw
  | stf
  deriving DecidableEq, Repr

/-- A statement (R54, R55). `command` is also the pseudo-instruction `cmd`; its suffix `.FE` or
`.SM` is the modifier of the command, so a suffix R54 refuses cannot be written down. -/
inductive HostStmt where
  | wr (r : Reg) (v : Word)
  | rd (r : Reg)
  | command (i : Instr)
  | wrbits (b : BufName) (s : Bits)
  | wrslots (vs : List Word)
  | wrdata (bs : List Word)
  deriving DecidableEq, Repr

/-- `MemWrite(BASE + off(NAME), 4, v)` (R54). -/
def regWrite (base : Nat) (r : Reg) (v : Word) : HostEvent :=
  .write (base + r.offset) Config.accessBytes v

/-- Writes of a list of values to a list of registers, in order. -/
def regWrites (base : Nat) (rs : List Reg) (vs : List Word) : List HostEvent :=
  (rs.zip vs).map fun rv => regWrite base rv.1 rv.2

/-- The word registers of a buffer, word 0 first (R19). -/
def BufName.words : BufName → List Reg
  | .raw => (List.finRange 5).map Reg.raw
  | .stf => (List.finRange 5).map Reg.stf

/-- The length register of a buffer (R19). -/
def BufName.len : BufName → Reg
  | .raw => .rawLen
  | .stf => .stfLen

/-- The accesses of a statement; none where R55's requirement fails. -/
def HostStmt.expand (base : Nat) : HostStmt → Option (List HostEvent)
  | .wr r v => some [regWrite base r v]
  | .rd r => some [.read (base + r.offset) Config.accessBytes]
  | .command i => some [regWrite base .cmd (encode i)]
  | .wrbits b s =>
    if s.length ≤ Config.bufBits then
      some (regWrites base b.words (bufPut s).toList
        ++ [regWrite base b.len (BitVec.ofNat 32 s.length)])
    else none
  | .wrslots vs =>
    if 1 ≤ vs.length ∧ vs.length ≤ Config.nSlots then
      some (regWrites base ((List.finRange 32).map Reg.slotId) vs
        ++ [regWrite base .contMask (BitVec.ofNat 32 (2 ^ vs.length - 1))])
    else none
  | .wrdata bs =>
    if bs.length ≤ Config.maxDlc then
      some (regWrite base .dlc (BitVec.ofNat 32 bs.length)
        :: regWrites base ((List.finRange 8).map Reg.data) bs)
    else none

/-- The accesses of a program in order; none if some statement has none. -/
def assemble (base : Nat) : List HostStmt → Option (List HostEvent)
  | [] => some []
  | st :: rest =>
    match st.expand base, assemble base rest with
    | some es, some more => some (es ++ more)
    | _, _ => none

/-- The identifier the host composes: `(stationId - 1) << 8 | destinationBitmap`, station ids 1..8
(R53). The block never interprets it. -/
def composeId (station : Nat) (bitmap : BitVec 8) : BitVec 11 :=
  BitVec.ofNat 11 (((station - 1) <<< 8) ||| bitmap.toNat)

end Sys2Proof.Machine
end

