-- ==== Sys2Proof/Safety.lean ====
section
/-! DEFINITION. What counts as a safe run, and the words claims use: the register map's access rights
and masks (10_state.md rule R13), the read and write sets of commands (rule R25), the invariant of
the state, and the host's one duty (20_memory.md rule R44). -/

namespace Sys2Proof.Machine

/-- The word 2^n - 1. -/
def lowMask (n : Nat) : Word := BitVec.ofNat 32 (2 ^ n - 1)

/-- RW in the access column of R13: host-readable and host-writable. -/
def Reg.isRW : Reg → Bool
  | .cmd | .status | .crcCalc | .winSlot | .survMask | .loseMask | .arbWidth => false
  | .histCont _ | .histBits _ => false
  | .poly | .id | .dlc | .ack | .crc | .round | .sender => true
  | .rawLen | .stfLen | .ids | .idsLen | .contMask => true
  | .data _ | .raw _ | .stf _ | .slotId _ => true

/-- FIELD_MASK: a 1 in each implemented bit of R13. CMD keeps no bit. -/
def Reg.fieldMask : Reg → Word
  | .cmd => 0
  | .status => 0x00000F0F
  | .poly | .crc | .round | .crcCalc | .ids => 0x0000FFFF
  | .id | .slotId _ => 0x000007FF
  | .dlc => 0x0000000F
  | .ack => 0x00000001
  | .sender | .rawLen | .stfLen | .data _ => 0x000000FF
  | .idsLen | .winSlot | .arbWidth => 0x0000001F
  | .contMask | .survMask | .loseMask => 0xFFFFFFFF
  | .raw _ | .stf _ | .histCont _ | .histBits _ => 0xFFFFFFFF

/-- The value of a register as a number (R14, R18 to R24); CMD reads 0. -/
def regValue (s : State) : Reg → Nat
  | .cmd => 0
  | .status =>
    (if s.status.err then 1 else 0) + (if s.status.matched then 2 else 0)
      + (if s.status.noneSet then 4 else 0) + (if s.status.tie then 8 else 0)
      + 256 * s.status.ecode.toNat
  | .poly => s.poly.toNat
  | .id => s.id.toNat
  | .dlc => s.dlc.toNat
  | .ack => s.ack.toNat
  | .crc => s.crc.toNat
  | .round => s.round.toNat
  | .sender => s.sender.toNat
  | .crcCalc => s.crcCalc.toNat
  | .rawLen => s.rawLen.toNat
  | .stfLen => s.stfLen.toNat
  | .ids => s.ids.toNat
  | .idsLen => s.idsLen.toNat
  | .contMask => s.contMask.toNat
  | .winSlot => s.winSlot.toNat
  | .survMask => s.survMask.toNat
  | .loseMask => s.loseMask.toNat
  | .arbWidth => s.arbWidth.toNat
  | .data k => s.data[k].toNat
  | .raw k => s.raw[k].toNat
  | .stf k => s.stf[k].toNat
  | .slotId k => s.slotId[k].toNat
  | .histCont p => s.histCont[p].toNat
  | .histBits p => s.histBits[p].toNat

/-- The registers a command that succeeds writes: the last column of R25. -/
def commandWrites (i : Instr) (r : Reg) : Bool :=
  match r with
  | .status => true
  | .crc => match i with | .crcGen _ | .unpack => true | _ => false
  | .crcCalc => match i with | .crcGen _ | .crcCheck _ => true | _ => false
  | .raw _ | .rawLen => match i with | .pack | .destuff => true | _ => false
  | .stf _ | .stfLen => i == .stuff
  | .ids | .idsLen => i == .idStuff
  | .id => match i with | .unpack | .idExtract => true | _ => false
  | .data _ | .ack | .round | .sender => i == .unpack
  | .winSlot | .survMask | .loseMask | .arbWidth | .histCont _ | .histBits _ =>
    match i with | .arbitrate _ => true | _ => false
  | .cmd | .poly | .dlc | .contMask | .slotId _ => false

/-- The registers a command that succeeds reads: the middle column of R25. The payload registers
read depend on DLC. -/
def commandReads (i : Instr) (s : State) (r : Reg) : Bool :=
  match i with
  | .nop => false
  | .crcGen _ =>
    match r with
    | .poly | .id | .dlc => true
    | .data k => decide (k.val < s.dlc.toNat)
    | _ => false
  | .crcCheck _ =>
    match r with
    | .poly | .id | .dlc | .crc => true
    | .data k => decide (k.val < s.dlc.toNat)
    | _ => false
  | .pack =>
    match r with
    | .id | .dlc | .ack | .crc | .round | .sender => true
    | .data k => decide (k.val < s.dlc.toNat)
    | _ => false
  | .unpack | .stuff => match r with | .rawLen | .raw _ => true | _ => false
  | .destuff => match r with | .stfLen | .stf _ => true | _ => false
  | .idStuff => r == .id
  | .idExtract => match r with | .idsLen | .ids => true | _ => false
  | .arbitrate _ => match r with | .contMask | .slotId _ => true | _ => false

/-- STATUS after an error: ERR = 1 and the code, every other field 0 (R79). -/
def statusFailed (code : BitVec 4) : Status :=
  { err := true, matched := false, noneSet := false, tie := false, ecode := code }

/-- STATUS after success with these flags: ERR = 0 and ECODE = 0 (R18). -/
def statusFlags (m n t : Bool) : Status :=
  { err := false, matched := m, noneSet := n, tie := t, ecode := 0 }

/-- The host write of `w` to CMD, offset 0x000 of the window (R29). -/
def cmdWrite (s : State) (w : Word) : HostEvent := .write (s.base + 0x000) 4 w

/-- ECODE of a command by R80 and R82: the first check of its rule that fails, 0 when none does. -/
def expectedCode (i : Instr) (s : State) : Nat :=
  match i with
  | .nop | .idStuff | .arbitrate _ => 0
  | .crcGen _ | .crcCheck _ | .pack => if s.dlc.toNat > 8 then 2 else 0
  | .unpack => if s.rawLen.toNat ≠ 116 then 5 else 0
  | .stuff =>
    if s.rawLen.toNat > 160 then 5
    else if (stuffBits (bufGet s.raw s.rawLen.toNat)).length > 160 then 6 else 0
  | .destuff => if s.stfLen.toNat > 160 then 5 else 0
  | .idExtract =>
    if s.idsLen.toNat > 16 then 3
    else if intOf (destuffBits (bitsW s.idsLen.toNat s.ids.toNat)) > 0x7FF then 4 else 0

/-- HIST_CONT`p` (0 for a `p` that names no register). -/
def State.contAt (s : State) (p : Nat) : Word := s.histCont[p]?.getD 0

/-- HIST_BITS`p` (0 for a `p` that names no register). -/
def State.bitsAt (s : State) (p : Nat) : Word := s.histBits[p]?.getD 0

/-- The wired-AND rule on masks: the contenders that drive 0 if there is one, else all of them
(R74 item 1). -/
def dominant (cont bits : Word) : Word :=
  if cont &&& ~~~bits = 0 then cont else cont &&& ~~~bits

/-- STATUS as commands can leave it (R18, R79, R80): ERR goes with a code, codes end at 6, and at
most one of ERR, MATCH, NONE, TIE is set. -/
structure StatusConsistent (st : Status) : Prop where
  errIffCode : st.err = true ↔ st.ecode ≠ 0
  codeLegal : st.ecode.toNat ≤ 6
  oneFlag : st.err.toNat + st.matched.toNat + st.noneSet.toNat + st.tie.toNat ≤ 1

/-- The results and the history of the last arbitration agree with each other (R23, R24, R74, R76). -/
structure ArbConsistent (s : State) : Prop where
  widthLegal : s.arbWidth.toNat = 0 ∨ (11 ≤ s.arbWidth.toNat ∧ s.arbWidth.toNat ≤ 13)
  survivorIffRan : s.survMask ≠ 0 ↔ s.arbWidth.toNat ≠ 0
  noneLeft : s.arbWidth.toNat = 0 → s.loseMask = 0 ∧ s.winSlot = 0
  disjoint : s.survMask &&& s.loseMask = 0
  winnerLowest : s.arbWidth.toNat ≠ 0 →
    s.survMask.getLsbD s.winSlot.toNat = true ∧
      ∀ j, j < s.winSlot.toNat → s.survMask.getLsbD j = false
  opens : s.arbWidth.toNat ≠ 0 → s.contAt 0 = s.survMask ||| s.loseMask
  chain : ∀ p, p + 1 < s.arbWidth.toNat → s.contAt (p + 1) = dominant (s.contAt p) (s.bitsAt p)
  closes : ∀ p, p + 1 = s.arbWidth.toNat → s.survMask = dominant (s.contAt p) (s.bitsAt p)
  driven : ∀ p, s.bitsAt p &&& ~~~s.contAt p = 0
  unused : ∀ p, s.arbWidth.toNat ≤ p → s.contAt p = 0 ∧ s.bitsAt p = 0

/-- The invariant every step keeps. -/
structure State.Inv (s : State) : Prop where
  status : StatusConsistent s.status
  arb : ArbConsistent s

/-- An event that is part of the block's interface (R30, R88). -/
def HostEvent.legal (base : Nat) : HostEvent → Bool
  | .reset => true
  | .read addr size => legalAccess base addr size
  | .write addr size _ => legalAccess base addr size

/-- A safe start: the host never makes an access R30 refuses (R44). -/
def State.hostKeepsDuty (s : State) : Bool := s.pending.all (HostEvent.legal s.base)

end Sys2Proof.Machine
end

