-- ==== Sys2Proof/Certificates/Slice0/Obligations.lean ====
section
/-! DEFINITION. The statements for the provers. Every one holds of every state, reachable or not,
and of every base address; none rests on a value the model chose. -/

open Sys2Proof Sys2Proof.Machine

/-! ### Encoding -/

/-- R46: words written out from the opcode map decode to their commands. -/
def Obligations.SpecWordsDecode : Prop :=
  decode 0x00000000 = .ok .nop ∧ decode 0x00000101 = .ok (.crcGen true) ∧
    decode 0x00000002 = .ok (.crcCheck false) ∧ decode 0x00000004 = .ok .unpack ∧
    decode 0x00000008 = .ok .idExtract ∧ decode 0x00000209 = .ok (.arbitrate true)

/-- R45, R46: decoding and encoding agree both ways, so each legal word has one meaning. -/
def Obligations.DecodeEncodeRoundTrip : Prop :=
  (∀ i : Instr, i.wellFormed = true → decode (encode i) = .ok i) ∧
    ∀ (w : Word) (i : Instr), decode w = .ok i → encode i = w

/-- R48: the decoder accepts exactly the words none of the four illegal cases covers, and they are
the thirteen words of R46. -/
def Obligations.DecodeAcceptsExactlyLegalWords : Prop :=
  ∀ w : Word,
    ((∃ i, decode w = .ok i) ↔ legalWord w = true) ∧
      (legalWord w = true ↔
        w ∈ ([0x000, 0x001, 0x101, 0x002, 0x102, 0x003, 0x004, 0x005, 0x006, 0x007, 0x008, 0x009,
          0x209] : List Word))

/-- R46: a word spells a command iff it matches the command's row, and FE and SM are bits 8 and 9. -/
def Obligations.DecodeMatchesOpcodeTable : Prop :=
  ∀ w : Word,
    (decode w = .ok .nop ↔ w &&& 0xFFFFFFFF = 0x00000000) ∧
    ((∃ fe, decode w = .ok (.crcGen fe)) ↔ w &&& 0xFFFFFEFF = 0x00000001) ∧
    ((∃ fe, decode w = .ok (.crcCheck fe)) ↔ w &&& 0xFFFFFEFF = 0x00000002) ∧
    (decode w = .ok .pack ↔ w &&& 0xFFFFFFFF = 0x00000003) ∧
    (decode w = .ok .unpack ↔ w &&& 0xFFFFFFFF = 0x00000004) ∧
    (decode w = .ok .stuff ↔ w &&& 0xFFFFFFFF = 0x00000005) ∧
    (decode w = .ok .destuff ↔ w &&& 0xFFFFFFFF = 0x00000006) ∧
    (decode w = .ok .idStuff ↔ w &&& 0xFFFFFFFF = 0x00000007) ∧
    (decode w = .ok .idExtract ↔ w &&& 0xFFFFFFFF = 0x00000008) ∧
    ((∃ sm, decode w = .ok (.arbitrate sm)) ↔ w &&& 0xFFFFFDFF = 0x00000009) ∧
    (∀ fe, decode w = .ok (.crcGen fe) ∨ decode w = .ok (.crcCheck fe) → fe = w.getLsbD 8) ∧
    (∀ sm, decode w = .ok (.arbitrate sm) → sm = w.getLsbD 9) ∧
    (encode (.crcGen true) = 0x00000101 ∧ encode (.crcCheck true) = 0x00000102 ∧
      encode (.arbitrate true) = 0x00000209)

/-! ### Steps and host accesses -/

/-- R49: a CMD write of a word that spells a command executes it, and nothing else happens but that
the access is done. -/
def Obligations.StepRunsDecodedCommand : Prop :=
  ∀ (s : State) (w : Word) (i : Instr) (rest : List HostEvent),
    s.pending = cmdWrite s w :: rest → decode w = .ok i → step s = exec i (s.setPending rest)

/-- R78: an illegal word always raises E_ILLEGAL and changes nothing but STATUS, to 0x00000101. -/
def Obligations.IllegalWordRaisesIllegal : Prop :=
  ∀ (s : State) (w : Word) (rest : List HostEvent),
    s.pending = cmdWrite s w :: rest → legalWord w = false →
      step s = .next ({ s with pending := rest, status := statusFailed 1 } : State) ∧
        (statusFailed 1).toWord = 0x00000101

/-- R13: the register map puts each register at its own offset, and no two share one. -/
def Obligations.RegisterMapIsOneToOne : Prop :=
  ∀ (off : Nat) (r : Reg), off % 4 = 0 → (regAt off = some r ↔ r.offset = off)

/-- R28: a host read returns the register's implemented bits and 0 elsewhere, 0 for CMD and for
reserved offsets, and changes no state of the block. -/
def Obligations.HostReadReturnsRegister : Prop :=
  ∀ (s : State) (off : Nat) (rest : List HostEvent), off % 4 = 0 → off < 4096 →
    s.pending = .read (s.base + off) 4 :: rest →
      ∃ v : Word,
        step s = .next ({ s with pending := rest, observed := s.observed ++ [v] } : State) ∧
        (∀ r : Reg, r.offset = off → v.toNat = regValue s r ∧ v &&& ~~~r.fieldMask = 0) ∧
        ((∀ r : Reg, r.offset ≠ off) → v = 0) ∧ (off = 0 → v = 0)

/-- R29: a host write executes a command at CMD, stores the masked value in an RW register and
nowhere else, and has no effect at an RO register or a reserved offset. -/
def Obligations.HostWriteDoesOneOfThree : Prop :=
  ∀ (s : State) (off : Nat) (v : Word) (rest : List HostEvent), off % 4 = 0 → off < 4096 →
    s.pending = .write (s.base + off) 4 v :: rest →
      (off = 0 →
        (∀ i, decode v = .ok i → step s = exec i (s.setPending rest)) ∧
        ((∀ i, decode v ≠ .ok i) →
          step s = .next ({ s with pending := rest, status := statusFailed 1 } : State))) ∧
      (∀ r : Reg, r.isRW = true → r.offset = off →
        ∃ t, step s = .next t ∧ readReg t r = v &&& r.fieldMask ∧
          (∀ r' : Reg, r' ≠ r → readReg t r' = readReg s r') ∧
          t.basePage = s.basePage ∧ t.pending = rest ∧ t.observed = s.observed) ∧
      (off ≠ 0 → (∀ r : Reg, r.isRW = true → r.offset ≠ off) →
        step s = .next (s.setPending rest))

/-- R30: an access of another width, misaligned or out of the window is refused, and no other is. -/
def Obligations.RefusedIffNotInInterface : Prop :=
  ∀ (s : State) (e : HostEvent) (rest : List HostEvent), s.pending = e :: rest →
    ((∃ r, step s = .refused r) ↔
      ∃ addr size, (e = .read addr size ∨ ∃ v, e = .write addr size v) ∧
        ¬(size = 4 ∧ addr % 4 = 0 ∧ s.base ≤ addr ∧ addr < s.base + 4096))

/-- R88: reset leaves POLY = 0x00001021 and every other implemented bit 0, whatever the base, and
every command is defined from there. What the host still has to do is the model's own and stays
(log 4). -/
def Obligations.ResetLeavesResetValues : Prop :=
  (∀ (s : State) (rest : List HostEvent), s.pending = .reset :: rest →
    ∃ t, step s = .next t ∧ (∀ r : Reg, readReg t r = if r = .poly then 0x00001021 else 0) ∧
      t.basePage = s.basePage) ∧
  (∀ (page : Nat) (r : Reg),
    readReg (State.resetAt page) r = if r = .poly then 0x00001021 else 0) ∧
  ∀ (page : Nat) (i : Instr), ∃ t, exec i (State.resetAt page) = .next t

/-- R54: each host statement's accesses do what the statement says: a command executes, a write
stores, a read observes. R55: `wrbits` loads a string and its length. -/
def Obligations.HostStatementsExpand : Prop :=
  (∀ (s : State) (i : Instr) (es rest : List HostEvent),
    (HostStmt.command i).expand s.base = some es → s.pending = es ++ rest →
      step s = exec i (s.setPending rest)) ∧
  (∀ (s : State) (r : Reg) (v : Word) (es rest : List HostEvent), r.isRW = true →
    (HostStmt.wr r v).expand s.base = some es → s.pending = es ++ rest →
      ∃ t, step s = .next t ∧ readReg t r = v &&& r.fieldMask ∧ t.pending = rest) ∧
  (∀ (s : State) (r : Reg) (es rest : List HostEvent),
    (HostStmt.rd r).expand s.base = some es → s.pending = es ++ rest →
      step s =
        .next ({ s with pending := rest, observed := s.observed ++ [readReg s r] } : State)) ∧
  (∀ (s : State) (x : Bits) (es rest : List HostEvent),
    (HostStmt.wrbits .raw x).expand s.base = some es → s.pending = es ++ rest →
      ∃ t : State, Host.Core.run Sys2Proof.core 6 s = .next t ∧
        bufGet t.raw t.rawLen.toNat = x ∧ t.rawLen.toNat = x.length ∧ t.pending = rest) ∧
  (∀ (s : State) (x : Bits) (es rest : List HostEvent),
    (HostStmt.wrbits .stf x).expand s.base = some es → s.pending = es ++ rest →
      ∃ t : State, Host.Core.run Sys2Proof.core 6 s = .next t ∧
        bufGet t.stf t.stfLen.toNat = x ∧ t.stfLen.toNat = x.length ∧ t.pending = rest)

/-! ### All commands -/

/-- R79, R76 item 2: no command stops the machine, in any state. -/
def Obligations.EveryCommandCompletes : Prop :=
  ∀ (i : Instr) (s : State), ∃ t, exec i s = .next t

/-- R30, R44, R79: a host that makes only accesses of the interface never sees the block stop, for
any number of steps from any state. -/
def Obligations.DutifulHostNeverStops : Prop :=
  ∀ (n : Nat) (s : State), s.hostKeepsDuty = true →
    ∃ t : State, Host.Core.run Sys2Proof.core n s = .next t ∧ t.hostKeepsDuty = true ∧
      t.pending = s.pending.drop n

/-- R79: an error writes STATUS = (ERR 1, the code, all else 0) and nothing else, whether a command
or the decode check raises it, and the host's accesses go on. -/
def Obligations.ErrorsArePrecise : Prop :=
  (∀ (i : Instr) (s t : State), exec i s = .next t → t.status.err = true →
    ∃ code : BitVec 4, code ≠ 0 ∧ t = { s with status := statusFailed code }) ∧
  ∀ (s t : State) (w : Word) (rest : List HostEvent), s.pending = cmdWrite s w :: rest →
    step s = .next t → t.status.err = true →
      ∃ code : BitVec 4, code ≠ 0 ∧ t = { s with pending := rest, status := statusFailed code }

/-- R80, R82: ECODE is that of the first check that fails, the decode check first; ERR goes with it;
no code above 6 is ever produced. -/
def Obligations.ErrorCodesFollowTheirCauses : Prop :=
  (∀ (i : Instr) (s t : State), exec i s = .next t →
    t.status.ecode.toNat = expectedCode i s ∧
      (t.status.err = true ↔ expectedCode i s ≠ 0) ∧ expectedCode i s ≤ 6) ∧
  ∀ (s : State) (w : Word) (rest : List HostEvent), s.pending = cmdWrite s w :: rest →
    legalWord w = false →
      ∃ t, step s = .next t ∧ t.status.ecode.toNat = 1 ∧ t.status.err = true

/-- R81: STATUS is not sticky: after a CMD write, legal or illegal, no field of STATUS depends on
what STATUS was; after reset it reads 0. -/
def Obligations.EveryCommandRewritesStatus : Prop :=
  (∀ (s : State) (st : Status) (w : Word) (rest : List HostEvent),
    s.pending = cmdWrite s w :: rest → step (s.setStatus st) = step s) ∧
  ∀ page : Nat, readReg (State.resetAt page) .status = 0

/-- R25, last column: a command that succeeds changes no register outside its write set; no command
touches the base, the accesses to come or the values observed. -/
def Obligations.CommandsWriteOnlyTheirRegisters : Prop :=
  ∀ (i : Instr) (s t : State), exec i s = .next t →
    (∀ r : Reg, commandWrites i r = false → readReg t r = readReg s r) ∧
      t.basePage = s.basePage ∧ t.pending = s.pending ∧ t.observed = s.observed

/-- R25, middle column: what a command that succeeds writes depends on its read set only. -/
def Obligations.CommandsReadOnlyTheirRegisters : Prop :=
  ∀ (i : Instr) (s u t : State), (∀ r : Reg, commandReads i s r = true → readReg s r = readReg u r) →
    exec i s = .next t → t.status.err = false →
      ∃ v, exec i u = .next v ∧ ∀ r : Reg, commandWrites i r = true → readReg v r = readReg t r

/-- R25: no command writes POLY, DLC, CONT_MASK or a SLOT_ID, not even at a whole step: only a host
write of another register or a reset can change them. -/
def Obligations.OnlyHostWritesOperandRegisters : Prop :=
  ∀ (s t : State) (w : Word) (rest : List HostEvent), s.pending = cmdWrite s w :: rest →
    step s = .next t →
      t.poly = s.poly ∧ t.dlc = s.dlc ∧ t.contMask = s.contMask ∧ t.slotId = s.slotId ∧
        t.basePage = s.basePage ∧ t.pending = rest

/-- R33: repeating a command with unchanged operands gives the same registers again. -/
def Obligations.RepeatedCommandChangesNothing : Prop :=
  ∀ (i : Instr) (s t : State), exec i s = .next t → exec i t = .next t

/-- R18, R24, R74, R76, R80: every step keeps STATUS and the arbitration results consistent, and no
step moves the window. -/
def Obligations.StepKeepsInvariant : Prop :=
  ∀ s t : State, s.Inv → step s = .next t → t.Inv ∧ t.basePage = s.basePage

/-- The invariant holds right after reset, at every base. -/
def Obligations.ResetMeetsInvariant : Prop :=
  (∀ page : Nat, (State.resetAt page).Inv) ∧ State.reset.Inv

/-! ### Control and CRC -/

/-- R77: NOP clears STATUS and changes nothing else; a word with OP = 0x00 and another bit set is no
NOP but illegal. -/
def Obligations.NopClearsStatus : Prop :=
  (∀ s : State, exec .nop s = .next { s with status := statusFlags false false false }) ∧
  (statusFlags false false false).toWord = 0 ∧
  ∀ w : Word, w.toNat % 256 = 0 → w ≠ 0 → ∀ i, decode w ≠ .ok i

/-- R50: the CRC message is the identifier and then the first DLC payload bytes, each most
significant bit first: 11 + 8 DLC bits. -/
def Obligations.CrcMessageLayout : Prop :=
  ∀ s : State, s.dlc.toNat ≤ 8 →
    (crcMsg s).length = 11 + 8 * s.dlc.toNat ∧
    (∀ i, i < 11 → (crcMsg s)[i]? = some (s.id.getLsbD (10 - i))) ∧
    ∀ (k : Fin 8) (j : Nat), k.val < s.dlc.toNat → j < 8 →
      (crcMsg s)[11 + 8 * k.val + j]? = some (s.data[k].getLsbD (7 - j))

/-- R60: CRC_GEN writes the CRC of the frame, or 0 with FE, to CRC and CRC_CALC; with DLC > 8 it
raises E_PAYLOAD instead, FE or not. -/
def Obligations.CrcGenWritesFrameCrc : Prop :=
  ∀ (fe : Bool) (s : State),
    (s.dlc.toNat ≤ 8 →
      ∃ c : BitVec 16, (fe = true → c = 0) ∧ (fe = false → c = crc16 (crcMsg s) s.poly) ∧
        exec (.crcGen fe) s =
          .next { s with crc := c, crcCalc := c, status := statusFlags false false false }) ∧
    (8 < s.dlc.toNat → exec (.crcGen fe) s = .next { s with status := statusFailed 2 })

/-- R61: CRC_CHECK writes the recomputed CRC to CRC_CALC only, MATCH says whether it equals the
carried CRC, and CRC is never written; with DLC > 8 it raises E_PAYLOAD. -/
def Obligations.CrcCheckComparesCarriedCrc : Prop :=
  ∀ (fe : Bool) (s : State),
    (s.dlc.toNat ≤ 8 →
      ∃ c : BitVec 16, (fe = true → c = 0) ∧ (fe = false → c = crc16 (crcMsg s) s.poly) ∧
        ∃ m : Bool, (m = true ↔ c = s.crc) ∧
          exec (.crcCheck fe) s =
            .next { s with crcCalc := c, status := statusFlags m false false }) ∧
    (8 < s.dlc.toNat → exec (.crcCheck fe) s = .next { s with status := statusFailed 2 })

/-- The polynomial over GF(2) of a bit string, leftmost bit the highest power (R58 item 1). -/
noncomputable def Sys2Proof.Machine.polyOf (m : Bits) : Polynomial (ZMod 2) :=
  m.foldl (fun acc b => acc * Polynomial.X + if b then 1 else 0) 0

/-- R58 item 1: `crc16` is the remainder of M(x) x^16 by G(x) = x^16 + POLY(x) over GF(2): they
differ by a multiple of G, and the result has degree below 16 by its width. -/
def Obligations.CrcIsPolynomialRemainder : Prop :=
  ∀ (m : Bits) (poly : BitVec 16),
    ∃ q : Polynomial (ZMod 2),
      polyOf m * Polynomial.X ^ 16 =
        q * (Polynomial.X ^ 16 + polyOf (bitsW 16 poly.toNat))
          + polyOf (bitsW 16 (crc16 m poly).toNat)

/-- R57: the long division equals the bit-serial shift register, for every message and polynomial;
on the ASCII bytes of "123456789" with POLY = 0x1021 it gives 0x31C3. -/
def Obligations.CrcRegisterFormEqualsDivision : Prop :=
  (∀ (m : Bits) (poly : BitVec 16), crc16 m poly = crcRegister m poly) ∧
    crc16 (bitsW 72 0x313233343536373839) 0x1021 = 0x31C3

/-- R58 items 2 to 5: leading zeros do not matter, the CRC is linear, zeros give 0, and the message
of ID = 1 alone gives POLY. -/
def Obligations.CrcArithmeticLaws : Prop :=
  ∀ poly : BitVec 16,
    (∀ (k : Nat) (m : Bits), crc16 (List.replicate k false ++ m) poly = crc16 m poly) ∧
    (∀ a b : Bits, a.length = b.length →
      crc16 (List.zipWith Bool.xor a b) poly = crc16 a poly ^^^ crc16 b poly) ∧
    (∀ n : Nat, crc16 (List.replicate n false) poly = 0) ∧
    crc16 (bitsW 11 1) poly = poly

/-- R58 item 7: each appended zero bit is one step of the register with input 0, so appended zero
bytes multiply the remainder by x^8 each; with POLY = 0x1021 up to eight of them leave the CRC as it
was exactly when it is 0 or 0xF01F. -/
def Obligations.CrcOfAppendedZeroBytes : Prop :=
  (∀ (m : Bits) (n : Nat) (poly : BitVec 16),
    crc16 (m ++ List.replicate n false) poly =
      (List.replicate n false).foldl (crcRegisterStep poly) (crc16 m poly)) ∧
  ∀ (m : Bits) (k : Nat), 1 ≤ k → k ≤ 8 →
    (crc16 (m ++ List.replicate (8 * k) false) 0x1021 = crc16 m 0x1021 ↔
      crc16 m 0x1021 = 0 ∨ crc16 m 0x1021 = 0xF01F)

/-! ### Stuffing -/

/-- R64: destuffing undoes stuffing, for every bit string; the converse fails on 0000000, and ten
zeros stuff to 000001000001. -/
def Obligations.DestuffUndoesStuff : Prop :=
  (∀ x : Bits, destuffBits (stuffBits x) = x) ∧
    destuffBits (List.replicate 7 false) = List.replicate 6 false ∧
    stuffBits (List.replicate 6 false) =
      [false, false, false, false, false, true, false] ∧
    stuffBits (List.replicate 10 false) =
      [false, false, false, false, false, true, false, false, false, false, false, true]

/-- R65: stuffing adds at most one bit in five, and exactly that to a constant string; destuffing
never lengthens. -/
def Obligations.StuffedLengthBounds : Prop :=
  (∀ x : Bits, x.length ≤ (stuffBits x).length ∧
    (stuffBits x).length ≤ x.length + x.length / 5) ∧
  (∀ (n : Nat) (b : Bool), (stuffBits (List.replicate n b)).length = n + n / 5) ∧
  ∀ y : Bits, (destuffBits y).length ≤ y.length

/-- R65, C8: a stuffed string never holds seven identical bits in a row; it can hold six. -/
def Obligations.StuffedRunsAtMostSix : Prop :=
  (∀ (x : Bits) (b : Bool), ¬ List.replicate 7 b <:+: stuffBits x) ∧
    List.replicate 6 true <:+:
      stuffBits [false, false, false, false, false, true, true, true, true, true]

/-- R65: an 11-bit identifier stuffs to 11, 12 or 13 bits, and to 13 for sixteen identifiers. -/
def Obligations.StuffedIdentifierLengths : Prop :=
  ∀ v : BitVec 11,
    11 ≤ (stuffBits (idString v)).length ∧ (stuffBits (idString v)).length ≤ 13 ∧
    ((stuffBits (idString v)).length = 13 ↔
      v ∈ ([0x000, 0x001, 0x01F, 0x020, 0x03E, 0x03F, 0x3E0, 0x3FF, 0x400, 0x41F, 0x7C0, 0x7C1,
        0x7DF, 0x7E0, 0x7FE, 0x7FF] : List (BitVec 11)))

/-! ### The framer's commands -/

/-- R19: `buf_get` after `buf_put` gives the string back and every bit past it is 0; STUFF and UNPACK
ignore the bits of RAW, and DESTUFF those of STF, at and above the length register. -/
def Obligations.BufferHoldsStringExactly : Prop :=
  (∀ x : Bits, x.length ≤ 160 →
    bufGet (bufPut x) x.length = x ∧ ∀ i, x.length ≤ i → i < 160 → bufBit (bufPut x) i = false) ∧
  (∀ (b : Buffer) (i : Nat), i < 160 →
    bufBit b i = (b[i / 32]?.getD 0).getLsbD (31 - i % 32) ∧ (bufGet b 160)[i]? = some (bufBit b i)) ∧
  (∀ (s t : State) (b : Buffer) (i : Instr), (i = .stuff ∨ i = .unpack) →
    (∀ k, k < s.rawLen.toNat → bufBit b k = bufBit s.raw k) → exec i s = .next t →
      exec i { s with raw := b } = .next { t with raw := b }) ∧
  ∀ (s t : State) (b : Buffer), (∀ k, k < s.stfLen.toNat → bufBit b k = bufBit s.stf k) →
    exec .destuff s = .next t → exec .destuff { s with stf := b } = .next { t with stf := b }

/-- R66, R51: PACK lays the frame out in RAW, field by field, most significant bit first, payload
slots at and beyond DLC 0, and clears the rest of RAW; with DLC > 8 it raises E_PAYLOAD. -/
def Obligations.PackLaysOutFrame : Prop :=
  ∀ s : State,
    (s.dlc.toNat ≤ 8 →
      ∃ b : Buffer,
        exec .pack s =
          .next { s with raw := b, rawLen := 116, status := statusFlags false false false } ∧
        (∀ i, i < 11 → bufBit b i = s.id.getLsbD (10 - i)) ∧
        (∀ (k : Fin 8) (j : Nat), j < 8 →
          bufBit b (11 + 8 * k.val + j) =
            (decide (k.val < s.dlc.toNat) && s.data[k].getLsbD (7 - j))) ∧
        bufBit b 75 = s.ack.getLsbD 0 ∧
        (∀ i, i < 16 → bufBit b (76 + i) = s.crc.getLsbD (15 - i)) ∧
        (∀ i, i < 16 → bufBit b (92 + i) = s.round.getLsbD (15 - i)) ∧
        (∀ i, i < 8 → bufBit b (108 + i) = s.sender.getLsbD (7 - i)) ∧
        ∀ i, 116 ≤ i → i < 160 → bufBit b i = false) ∧
    (8 < s.dlc.toNat → exec .pack s = .next { s with status := statusFailed 2 })

/-- R67: UNPACK slices the fields of a 116-bit string out of RAW into the frame registers, all eight
payload bytes among them, and keeps DLC; with another RAW_LEN it raises E_LENGTH. -/
def Obligations.UnpackSlicesFields : Prop :=
  ∀ s : State,
    (s.rawLen.toNat = 116 →
      ∃ (id : BitVec 11) (data : Vector (BitVec 8) 8) (ack : BitVec 1) (crc round : BitVec 16)
        (sender : BitVec 8),
        exec .unpack s =
          .next { s with
            id := id, data := data, ack := ack, crc := crc, round := round, sender := sender,
            status := statusFlags false false false } ∧
        (∀ i, i < 11 → id.getLsbD (10 - i) = bufBit s.raw i) ∧
        (∀ (k : Fin 8) (j : Nat), j < 8 →
          data[k].getLsbD (7 - j) = bufBit s.raw (11 + 8 * k.val + j)) ∧
        ack.getLsbD 0 = bufBit s.raw 75 ∧
        (∀ i, i < 16 → crc.getLsbD (15 - i) = bufBit s.raw (76 + i)) ∧
        (∀ i, i < 16 → round.getLsbD (15 - i) = bufBit s.raw (92 + i)) ∧
        ∀ i, i < 8 → sender.getLsbD (7 - i) = bufBit s.raw (108 + i)) ∧
    (s.rawLen.toNat ≠ 116 → exec .unpack s = .next { s with status := statusFailed 5 })

/-- R66, R67: UNPACK after PACK gives the frame back, payload bytes at and beyond DLC as 0, in
whatever state the packed string arrives; the receiver's DLC is its own. -/
def Obligations.UnpackUndoesPack : Prop :=
  ∀ s u : State, s.dlc.toNat ≤ 8 → ∀ t, exec .pack s = .next t → u.raw = t.raw →
    u.rawLen = t.rawLen →
      ∃ v, exec .unpack u = .next v ∧ v.id = s.id ∧ v.ack = s.ack ∧ v.crc = s.crc ∧
        v.round = s.round ∧ v.sender = s.sender ∧ v.dlc = u.dlc ∧ v.status.err = false ∧
        ∀ k : Fin 8, v.data[k] = if k.val < s.dlc.toNat then s.data[k] else 0

/-- R68: STUFF puts the stuffed RAW string in STF, 0 past it, with its length; RAW_LEN > 160 raises
E_LENGTH, a result over 160 bits E_OVERFLOW, which takes at least 135 raw bits: 0^134 is accepted
and 0^135 is not. -/
def Obligations.StuffCommandStuffsRaw : Prop :=
  (∀ s : State,
    (s.rawLen.toNat ≤ 160 → (stuffBits (bufGet s.raw s.rawLen.toNat)).length ≤ 160 →
      ∃ (b : Buffer) (n : BitVec 8),
        exec .stuff s =
          .next { s with stf := b, stfLen := n, status := statusFlags false false false } ∧
        bufGet b n.toNat = stuffBits (bufGet s.raw s.rawLen.toNat) ∧
        n.toNat = (stuffBits (bufGet s.raw s.rawLen.toNat)).length ∧
        ∀ i, n.toNat ≤ i → i < 160 → bufBit b i = false) ∧
    (160 < s.rawLen.toNat → exec .stuff s = .next { s with status := statusFailed 5 }) ∧
    (s.rawLen.toNat ≤ 160 → 160 < (stuffBits (bufGet s.raw s.rawLen.toNat)).length →
      exec .stuff s = .next { s with status := statusFailed 6 }) ∧
    (s.rawLen.toNat ≤ 134 → (stuffBits (bufGet s.raw s.rawLen.toNat)).length ≤ 160)) ∧
  (stuffBits (List.replicate 134 false)).length = 160 ∧
  (stuffBits (List.replicate 135 false)).length = 162

/-- R69: DESTUFF puts the destuffed STF string in RAW, 0 past it, with its length, and never
overflows; STF_LEN > 160 raises E_LENGTH. -/
def Obligations.DestuffCommandDestuffsStf : Prop :=
  ∀ s : State,
    (s.stfLen.toNat ≤ 160 →
      ∃ (b : Buffer) (n : BitVec 8),
        exec .destuff s =
          .next { s with raw := b, rawLen := n, status := statusFlags false false false } ∧
        bufGet b n.toNat = destuffBits (bufGet s.stf s.stfLen.toNat) ∧
        n.toNat = (destuffBits (bufGet s.stf s.stfLen.toNat)).length ∧ n.toNat ≤ 160 ∧
        ∀ i, n.toNat ≤ i → i < 160 → bufBit b i = false) ∧
    (160 < s.stfLen.toNat → exec .destuff s = .next { s with status := statusFailed 5 })

/-- R70: ID_STUFF writes the stuffed identifier, right-aligned, and its length 11 to 13; it never
fails. -/
def Obligations.IdStuffWritesStuffedIdentifier : Prop :=
  ∀ s : State,
    ∃ (v : BitVec 16) (n : BitVec 5),
      exec .idStuff s =
        .next { s with ids := v, idsLen := n, status := statusFlags false false false } ∧
      v.toNat = intOf (stuffBits (bitsW 11 s.id.toNat)) ∧
      n.toNat = (stuffBits (bitsW 11 s.id.toNat)).length ∧
      bitsW n.toNat v.toNat = stuffBits (bitsW 11 s.id.toNat) ∧
      11 ≤ n.toNat ∧ n.toNat ≤ 13 ∧ v.toNat < 2 ^ n.toNat

/-- R71: ID_EXTRACT writes the destuffed value to ID; IDS_LEN > 16 raises E_FIELD_LEN, and then a
value above 0x7FF raises E_ID_RANGE. The string ID_STUFF wrote gives its identifier back, in whatever
state it arrives. -/
def Obligations.IdExtractWritesIdentifier : Prop :=
  (∀ s : State,
    (s.idsLen.toNat ≤ 16 → intOf (destuffBits (bitsW s.idsLen.toNat s.ids.toNat)) ≤ 0x7FF →
      ∃ v : BitVec 11,
        v.toNat = intOf (destuffBits (bitsW s.idsLen.toNat s.ids.toNat)) ∧
        exec .idExtract s = .next { s with id := v, status := statusFlags false false false }) ∧
    (16 < s.idsLen.toNat → exec .idExtract s = .next { s with status := statusFailed 3 }) ∧
    (s.idsLen.toNat ≤ 16 → 0x7FF < intOf (destuffBits (bitsW s.idsLen.toNat s.ids.toNat)) →
      exec .idExtract s = .next { s with status := statusFailed 4 }) ∧
    (s.idsLen = 0 → exec .idExtract s =
      .next { s with id := 0, status := statusFlags false false false })) ∧
  ∀ s t u : State, exec .idStuff s = .next t → u.ids = t.ids → u.idsLen = t.idsLen →
    exec .idExtract u = .next { u with id := s.id, status := statusFlags false false false }

/-- R21: IDS holds its string right-aligned, its last bit IDS bit 0; ID_STUFF writes zeros above the
string, and ID_EXTRACT ignores the bits at IDS_LEN and above. -/
def Obligations.IdsIsRightAligned : Prop :=
  (∀ s : State, s.idsLen.toNat ≤ 16 →
    (idsString s).length = s.idsLen.toNat ∧
      ∀ i, i < s.idsLen.toNat → (idsString s)[s.idsLen.toNat - 1 - i]? = some (s.ids.getLsbD i)) ∧
  (∀ s t : State, exec .idStuff s = .next t →
    ∀ i, t.idsLen.toNat ≤ i → t.ids.getLsbD i = false) ∧
  ∀ (s t : State) (v : BitVec 16), (∀ i, i < s.idsLen.toNat → v.getLsbD i = s.ids.getLsbD i) →
    exec .idExtract s = .next t → exec .idExtract { s with ids := v } = .next { t with ids := v }

/-- R42, R43, R65: a frame packed and stuffed by one block, and destuffed and unpacked by another
from the string alone, comes back whole; STUFF after PACK never overflows; and once the receiver has
the sender's DLC and POLY, CRC_CHECK matches exactly when the sender's CRC register held the frame's
CRC. -/
def Obligations.FrameTravelsThroughCodec : Prop :=
  ∀ s : State, s.dlc.toNat ≤ 8 →
    ∃ p q, exec .pack s = .next p ∧ exec .stuff p = .next q ∧ q.status.err = false ∧
      116 ≤ q.stfLen.toNat ∧ q.stfLen.toNat ≤ 139 ∧
      ∀ r : State, r.stf = q.stf → r.stfLen = q.stfLen →
        ∃ d u, exec .destuff r = .next d ∧ exec .unpack d = .next u ∧ u.status.err = false ∧
          u.id = s.id ∧ u.ack = s.ack ∧ u.crc = s.crc ∧ u.round = s.round ∧
          u.sender = s.sender ∧ u.dlc = r.dlc ∧
          (∀ k : Fin 8, u.data[k] = if k.val < s.dlc.toNat then s.data[k] else 0) ∧
          (r.poly = s.poly →
            ∃ c, exec (.crcCheck false) { u with dlc := s.dlc } = .next c ∧
              (c.status.matched = true ↔ s.crc = crc16 (crcMsg s) s.poly))

/-! ### Arbitration -/

/-- R75, R72, R73, R74 item 1: ARBITRATE in either mode. No contender: NONE, every result and every
history entry 0. Else the width is 11 raw and the longest contender's key stuffed, entry 0 is
CONT_MASK, each contender drives its key's bit (1 past its end), those that do not drive the minimum
are demoted, the last set is SURV_MASK, the rest of CONT_MASK is LOSE_MASK, WIN_SLOT is the lowest
survivor, and TIE says that there is more than one. -/
def Obligations.ArbitrateReducesBitwise : Prop :=
  ∀ (sm : Bool) (s : State),
    (s.contMask = 0 →
      ∃ hc hb : History, (∀ p : Fin 16, hc[p] = 0 ∧ hb[p] = 0) ∧
        exec (.arbitrate sm) s =
          .next { s with
            winSlot := 0, survMask := 0, loseMask := 0, arbWidth := 0, histCont := hc,
            histBits := hb, status := statusFlags false true false }) ∧
    (s.contMask ≠ 0 →
      ∃ (t : State) (tie : Bool),
        exec (.arbitrate sm) s =
          .next { s with
            winSlot := t.winSlot, survMask := t.survMask, loseMask := t.loseMask,
            arbWidth := t.arbWidth, histCont := t.histCont, histBits := t.histBits,
            status := statusFlags false false tie } ∧
        (sm = false → t.arbWidth.toNat = 11) ∧
        (sm = true →
          (∃ k : Fin 32, s.contMask.getLsbD k = true ∧
            t.arbWidth.toNat = (keyOf true s.slotId[k]).length) ∧
          ∀ k : Fin 32, s.contMask.getLsbD k = true →
            (keyOf true s.slotId[k]).length ≤ t.arbWidth.toNat) ∧
        t.contAt 0 = s.contMask ∧
        (∀ (p : Nat) (k : Fin 32), p < t.arbWidth.toNat →
          (t.bitsAt p).getLsbD k =
            ((t.contAt p).getLsbD k && (keyOf sm s.slotId[k]).getD p true)) ∧
        (∀ p, p + 1 < t.arbWidth.toNat → t.contAt (p + 1) = dominant (t.contAt p) (t.bitsAt p)) ∧
        (∀ p, p + 1 = t.arbWidth.toNat → t.survMask = dominant (t.contAt p) (t.bitsAt p)) ∧
        (∀ p, t.arbWidth.toNat ≤ p → t.contAt p = 0 ∧ t.bitsAt p = 0) ∧
        t.survMask ≠ 0 ∧ t.loseMask = s.contMask &&& ~~~t.survMask ∧
        t.survMask.getLsbD t.winSlot.toNat = true ∧
        (∀ j, j < t.winSlot.toNat → t.survMask.getLsbD j = false) ∧
        (tie = true ↔ ∃ j k : Fin 32, j ≠ k ∧ t.survMask.getLsbD j = true ∧
          t.survMask.getLsbD k = true))

/-- R74 item 2: in either mode the survivors are the contenders with the numerically lowest
identifier, whatever the bits were on the way. -/
def Obligations.LowestIdentifiersSurvive : Prop :=
  ∀ (sm : Bool) (s t : State), exec (.arbitrate sm) s = .next t → ∀ k : Fin 32,
    (t.survMask.getLsbD k = true ↔
      s.contMask.getLsbD k = true ∧
        ∀ j : Fin 32, s.contMask.getLsbD j = true → s.slotId[k].toNat ≤ s.slotId[j].toNat)

/-- R74 item 3: stuffed mode gives the winner, survivors, losers and STATUS of raw mode. -/
def Obligations.StuffedModeNamesSameWinner : Prop :=
  ∀ s t u : State, exec (.arbitrate false) s = .next t → exec (.arbitrate true) s = .next u →
    u.survMask = t.survMask ∧ u.loseMask = t.loseMask ∧ u.winSlot = t.winSlot ∧
      u.status = t.status

/-- R74: stuffing keeps the order of 11-bit strings: at the first position where the keys of two
distinct identifiers differ, the lower identifier has 0; and no key is the start of another. -/
def Obligations.StuffingKeepsIdentifierOrder : Prop :=
  ∀ v w : BitVec 11, v.toNat < w.toNat →
    ∃ p, p < (stuffBits (idString v)).length ∧ p < (stuffBits (idString w)).length ∧
      (∀ q, q < p → (stuffBits (idString v))[q]? = (stuffBits (idString w))[q]?) ∧
      (stuffBits (idString v))[p]? = some false ∧ (stuffBits (idString w))[p]? = some true

/-- R76 item 1: ARB_WIDTH is 11 raw and 11 to 13 stuffed, 13 exactly when some contender's
identifier is one of the sixteen of R65. -/
def Obligations.ArbitrationWidthBounds : Prop :=
  ∀ (sm : Bool) (s t : State), s.contMask ≠ 0 → exec (.arbitrate sm) s = .next t →
    (sm = false → t.arbWidth.toNat = 11) ∧
    (sm = true → 11 ≤ t.arbWidth.toNat ∧ t.arbWidth.toNat ≤ 13 ∧
      (t.arbWidth.toNat = 13 ↔ ∃ k : Fin 32, s.contMask.getLsbD k = true ∧
        s.slotId[k] ∈ ([0x000, 0x001, 0x01F, 0x020, 0x03E, 0x03F, 0x3E0, 0x3FF, 0x400, 0x41F,
          0x7C0, 0x7C1, 0x7DF, 0x7E0, 0x7FE, 0x7FF] : List (BitVec 11))))

/-- R22, R76 item 6: an arbitration depends on CONT_MASK and the contenders' identifiers only: a slot
outside CONT_MASK takes no part, whatever its SLOT_ID holds, and no other register enters. -/
def Obligations.OnlyContendersDecide : Prop :=
  ∀ (sm : Bool) (s u t : State), u.contMask = s.contMask →
    (∀ k : Fin 32, s.contMask.getLsbD k = true → u.slotId[k] = s.slotId[k]) →
    exec (.arbitrate sm) s = .next t →
      exec (.arbitrate sm) u =
        .next { u with
          winSlot := t.winSlot, survMask := t.survMask, loseMask := t.loseMask,
          arbWidth := t.arbWidth, histCont := t.histCont, histBits := t.histBits,
          status := t.status }

/-- R76 items 3 and 5: survivors and losers split CONT_MASK, and the losers are exactly the
contenders some position demoted. -/
def Obligations.LosersAreThoseDemoted : Prop :=
  ∀ (sm : Bool) (s t : State), exec (.arbitrate sm) s = .next t →
    t.survMask &&& t.loseMask = 0 ∧ t.survMask ||| t.loseMask = s.contMask ∧
    ∀ k : Fin 32,
      (t.loseMask.getLsbD k = true ↔
        ∃ p, p < t.arbWidth.toNat ∧ (t.contAt p).getLsbD k = true ∧
          (if p + 1 < t.arbWidth.toNat then t.contAt (p + 1) else t.survMask).getLsbD k = false)
end

