-- ==== Sys2Proof/Laws/State.lean ====
section
/-! SUPPORT. What each named update of the state leaves in each field (one lemma per field per
update), so that no proof unfolds a record update. -/

namespace Sys2Proof.Machine

section
variable (s : State) (st : Status)

@[simp] theorem State.setStatus_status : (s.setStatus st).status = st := rfl
@[simp] theorem State.setStatus_poly : (s.setStatus st).poly = s.poly := rfl
@[simp] theorem State.setStatus_id : (s.setStatus st).id = s.id := rfl
@[simp] theorem State.setStatus_dlc : (s.setStatus st).dlc = s.dlc := rfl
@[simp] theorem State.setStatus_ack : (s.setStatus st).ack = s.ack := rfl
@[simp] theorem State.setStatus_crc : (s.setStatus st).crc = s.crc := rfl
@[simp] theorem State.setStatus_round : (s.setStatus st).round = s.round := rfl
@[simp] theorem State.setStatus_sender : (s.setStatus st).sender = s.sender := rfl
@[simp] theorem State.setStatus_crcCalc : (s.setStatus st).crcCalc = s.crcCalc := rfl
@[simp] theorem State.setStatus_rawLen : (s.setStatus st).rawLen = s.rawLen := rfl
@[simp] theorem State.setStatus_stfLen : (s.setStatus st).stfLen = s.stfLen := rfl
@[simp] theorem State.setStatus_ids : (s.setStatus st).ids = s.ids := rfl
@[simp] theorem State.setStatus_idsLen : (s.setStatus st).idsLen = s.idsLen := rfl
@[simp] theorem State.setStatus_contMask : (s.setStatus st).contMask = s.contMask := rfl
@[simp] theorem State.setStatus_winSlot : (s.setStatus st).winSlot = s.winSlot := rfl
@[simp] theorem State.setStatus_survMask : (s.setStatus st).survMask = s.survMask := rfl
@[simp] theorem State.setStatus_loseMask : (s.setStatus st).loseMask = s.loseMask := rfl
@[simp] theorem State.setStatus_arbWidth : (s.setStatus st).arbWidth = s.arbWidth := rfl
@[simp] theorem State.setStatus_data : (s.setStatus st).data = s.data := rfl
@[simp] theorem State.setStatus_raw : (s.setStatus st).raw = s.raw := rfl
@[simp] theorem State.setStatus_stf : (s.setStatus st).stf = s.stf := rfl
@[simp] theorem State.setStatus_slotId : (s.setStatus st).slotId = s.slotId := rfl
@[simp] theorem State.setStatus_histCont : (s.setStatus st).histCont = s.histCont := rfl
@[simp] theorem State.setStatus_histBits : (s.setStatus st).histBits = s.histBits := rfl
@[simp] theorem State.setStatus_basePage : (s.setStatus st).basePage = s.basePage := rfl
@[simp] theorem State.setStatus_pending : (s.setStatus st).pending = s.pending := rfl
@[simp] theorem State.setStatus_observed : (s.setStatus st).observed = s.observed := rfl
@[simp] theorem State.setStatus_base : (s.setStatus st).base = s.base := rfl

end

section
variable (s : State) (c : BitVec 16)

@[simp] theorem State.setCrc_status : (s.setCrc c).status = s.status := rfl
@[simp] theorem State.setCrc_poly : (s.setCrc c).poly = s.poly := rfl
@[simp] theorem State.setCrc_id : (s.setCrc c).id = s.id := rfl
@[simp] theorem State.setCrc_dlc : (s.setCrc c).dlc = s.dlc := rfl
@[simp] theorem State.setCrc_ack : (s.setCrc c).ack = s.ack := rfl
@[simp] theorem State.setCrc_crc : (s.setCrc c).crc = c := rfl
@[simp] theorem State.setCrc_round : (s.setCrc c).round = s.round := rfl
@[simp] theorem State.setCrc_sender : (s.setCrc c).sender = s.sender := rfl
@[simp] theorem State.setCrc_crcCalc : (s.setCrc c).crcCalc = s.crcCalc := rfl
@[simp] theorem State.setCrc_rawLen : (s.setCrc c).rawLen = s.rawLen := rfl
@[simp] theorem State.setCrc_stfLen : (s.setCrc c).stfLen = s.stfLen := rfl
@[simp] theorem State.setCrc_ids : (s.setCrc c).ids = s.ids := rfl
@[simp] theorem State.setCrc_idsLen : (s.setCrc c).idsLen = s.idsLen := rfl
@[simp] theorem State.setCrc_contMask : (s.setCrc c).contMask = s.contMask := rfl
@[simp] theorem State.setCrc_winSlot : (s.setCrc c).winSlot = s.winSlot := rfl
@[simp] theorem State.setCrc_survMask : (s.setCrc c).survMask = s.survMask := rfl
@[simp] theorem State.setCrc_loseMask : (s.setCrc c).loseMask = s.loseMask := rfl
@[simp] theorem State.setCrc_arbWidth : (s.setCrc c).arbWidth = s.arbWidth := rfl
@[simp] theorem State.setCrc_data : (s.setCrc c).data = s.data := rfl
@[simp] theorem State.setCrc_raw : (s.setCrc c).raw = s.raw := rfl
@[simp] theorem State.setCrc_stf : (s.setCrc c).stf = s.stf := rfl
@[simp] theorem State.setCrc_slotId : (s.setCrc c).slotId = s.slotId := rfl
@[simp] theorem State.setCrc_histCont : (s.setCrc c).histCont = s.histCont := rfl
@[simp] theorem State.setCrc_histBits : (s.setCrc c).histBits = s.histBits := rfl
@[simp] theorem State.setCrc_basePage : (s.setCrc c).basePage = s.basePage := rfl
@[simp] theorem State.setCrc_pending : (s.setCrc c).pending = s.pending := rfl
@[simp] theorem State.setCrc_observed : (s.setCrc c).observed = s.observed := rfl
@[simp] theorem State.setCrc_base : (s.setCrc c).base = s.base := rfl

end

section
variable (s : State) (c : BitVec 16)

@[simp] theorem State.setCrcCalc_status : (s.setCrcCalc c).status = s.status := rfl
@[simp] theorem State.setCrcCalc_poly : (s.setCrcCalc c).poly = s.poly := rfl
@[simp] theorem State.setCrcCalc_id : (s.setCrcCalc c).id = s.id := rfl
@[simp] theorem State.setCrcCalc_dlc : (s.setCrcCalc c).dlc = s.dlc := rfl
@[simp] theorem State.setCrcCalc_ack : (s.setCrcCalc c).ack = s.ack := rfl
@[simp] theorem State.setCrcCalc_crc : (s.setCrcCalc c).crc = s.crc := rfl
@[simp] theorem State.setCrcCalc_round : (s.setCrcCalc c).round = s.round := rfl
@[simp] theorem State.setCrcCalc_sender : (s.setCrcCalc c).sender = s.sender := rfl
@[simp] theorem State.setCrcCalc_crcCalc : (s.setCrcCalc c).crcCalc = c := rfl
@[simp] theorem State.setCrcCalc_rawLen : (s.setCrcCalc c).rawLen = s.rawLen := rfl
@[simp] theorem State.setCrcCalc_stfLen : (s.setCrcCalc c).stfLen = s.stfLen := rfl
@[simp] theorem State.setCrcCalc_ids : (s.setCrcCalc c).ids = s.ids := rfl
@[simp] theorem State.setCrcCalc_idsLen : (s.setCrcCalc c).idsLen = s.idsLen := rfl
@[simp] theorem State.setCrcCalc_contMask : (s.setCrcCalc c).contMask = s.contMask := rfl
@[simp] theorem State.setCrcCalc_winSlot : (s.setCrcCalc c).winSlot = s.winSlot := rfl
@[simp] theorem State.setCrcCalc_survMask : (s.setCrcCalc c).survMask = s.survMask := rfl
@[simp] theorem State.setCrcCalc_loseMask : (s.setCrcCalc c).loseMask = s.loseMask := rfl
@[simp] theorem State.setCrcCalc_arbWidth : (s.setCrcCalc c).arbWidth = s.arbWidth := rfl
@[simp] theorem State.setCrcCalc_data : (s.setCrcCalc c).data = s.data := rfl
@[simp] theorem State.setCrcCalc_raw : (s.setCrcCalc c).raw = s.raw := rfl
@[simp] theorem State.setCrcCalc_stf : (s.setCrcCalc c).stf = s.stf := rfl
@[simp] theorem State.setCrcCalc_slotId : (s.setCrcCalc c).slotId = s.slotId := rfl
@[simp] theorem State.setCrcCalc_histCont : (s.setCrcCalc c).histCont = s.histCont := rfl
@[simp] theorem State.setCrcCalc_histBits : (s.setCrcCalc c).histBits = s.histBits := rfl
@[simp] theorem State.setCrcCalc_basePage : (s.setCrcCalc c).basePage = s.basePage := rfl
@[simp] theorem State.setCrcCalc_pending : (s.setCrcCalc c).pending = s.pending := rfl
@[simp] theorem State.setCrcCalc_observed : (s.setCrcCalc c).observed = s.observed := rfl
@[simp] theorem State.setCrcCalc_base : (s.setCrcCalc c).base = s.base := rfl

end

section
variable (s : State) (b : Buffer) (n : BitVec 8)

@[simp] theorem State.setRaw_status : (s.setRaw b n).status = s.status := rfl
@[simp] theorem State.setRaw_poly : (s.setRaw b n).poly = s.poly := rfl
@[simp] theorem State.setRaw_id : (s.setRaw b n).id = s.id := rfl
@[simp] theorem State.setRaw_dlc : (s.setRaw b n).dlc = s.dlc := rfl
@[simp] theorem State.setRaw_ack : (s.setRaw b n).ack = s.ack := rfl
@[simp] theorem State.setRaw_crc : (s.setRaw b n).crc = s.crc := rfl
@[simp] theorem State.setRaw_round : (s.setRaw b n).round = s.round := rfl
@[simp] theorem State.setRaw_sender : (s.setRaw b n).sender = s.sender := rfl
@[simp] theorem State.setRaw_crcCalc : (s.setRaw b n).crcCalc = s.crcCalc := rfl
@[simp] theorem State.setRaw_rawLen : (s.setRaw b n).rawLen = n := rfl
@[simp] theorem State.setRaw_stfLen : (s.setRaw b n).stfLen = s.stfLen := rfl
@[simp] theorem State.setRaw_ids : (s.setRaw b n).ids = s.ids := rfl
@[simp] theorem State.setRaw_idsLen : (s.setRaw b n).idsLen = s.idsLen := rfl
@[simp] theorem State.setRaw_contMask : (s.setRaw b n).contMask = s.contMask := rfl
@[simp] theorem State.setRaw_winSlot : (s.setRaw b n).winSlot = s.winSlot := rfl
@[simp] theorem State.setRaw_survMask : (s.setRaw b n).survMask = s.survMask := rfl
@[simp] theorem State.setRaw_loseMask : (s.setRaw b n).loseMask = s.loseMask := rfl
@[simp] theorem State.setRaw_arbWidth : (s.setRaw b n).arbWidth = s.arbWidth := rfl
@[simp] theorem State.setRaw_data : (s.setRaw b n).data = s.data := rfl
@[simp] theorem State.setRaw_raw : (s.setRaw b n).raw = b := rfl
@[simp] theorem State.setRaw_stf : (s.setRaw b n).stf = s.stf := rfl
@[simp] theorem State.setRaw_slotId : (s.setRaw b n).slotId = s.slotId := rfl
@[simp] theorem State.setRaw_histCont : (s.setRaw b n).histCont = s.histCont := rfl
@[simp] theorem State.setRaw_histBits : (s.setRaw b n).histBits = s.histBits := rfl
@[simp] theorem State.setRaw_basePage : (s.setRaw b n).basePage = s.basePage := rfl
@[simp] theorem State.setRaw_pending : (s.setRaw b n).pending = s.pending := rfl
@[simp] theorem State.setRaw_observed : (s.setRaw b n).observed = s.observed := rfl
@[simp] theorem State.setRaw_base : (s.setRaw b n).base = s.base := rfl

end

section
variable (s : State) (b : Buffer) (n : BitVec 8)

@[simp] theorem State.setStf_status : (s.setStf b n).status = s.status := rfl
@[simp] theorem State.setStf_poly : (s.setStf b n).poly = s.poly := rfl
@[simp] theorem State.setStf_id : (s.setStf b n).id = s.id := rfl
@[simp] theorem State.setStf_dlc : (s.setStf b n).dlc = s.dlc := rfl
@[simp] theorem State.setStf_ack : (s.setStf b n).ack = s.ack := rfl
@[simp] theorem State.setStf_crc : (s.setStf b n).crc = s.crc := rfl
@[simp] theorem State.setStf_round : (s.setStf b n).round = s.round := rfl
@[simp] theorem State.setStf_sender : (s.setStf b n).sender = s.sender := rfl
@[simp] theorem State.setStf_crcCalc : (s.setStf b n).crcCalc = s.crcCalc := rfl
@[simp] theorem State.setStf_rawLen : (s.setStf b n).rawLen = s.rawLen := rfl
@[simp] theorem State.setStf_stfLen : (s.setStf b n).stfLen = n := rfl
@[simp] theorem State.setStf_ids : (s.setStf b n).ids = s.ids := rfl
@[simp] theorem State.setStf_idsLen : (s.setStf b n).idsLen = s.idsLen := rfl
@[simp] theorem State.setStf_contMask : (s.setStf b n).contMask = s.contMask := rfl
@[simp] theorem State.setStf_winSlot : (s.setStf b n).winSlot = s.winSlot := rfl
@[simp] theorem State.setStf_survMask : (s.setStf b n).survMask = s.survMask := rfl
@[simp] theorem State.setStf_loseMask : (s.setStf b n).loseMask = s.loseMask := rfl
@[simp] theorem State.setStf_arbWidth : (s.setStf b n).arbWidth = s.arbWidth := rfl
@[simp] theorem State.setStf_data : (s.setStf b n).data = s.data := rfl
@[simp] theorem State.setStf_raw : (s.setStf b n).raw = s.raw := rfl
@[simp] theorem State.setStf_stf : (s.setStf b n).stf = b := rfl
@[simp] theorem State.setStf_slotId : (s.setStf b n).slotId = s.slotId := rfl
@[simp] theorem State.setStf_histCont : (s.setStf b n).histCont = s.histCont := rfl
@[simp] theorem State.setStf_histBits : (s.setStf b n).histBits = s.histBits := rfl
@[simp] theorem State.setStf_basePage : (s.setStf b n).basePage = s.basePage := rfl
@[simp] theorem State.setStf_pending : (s.setStf b n).pending = s.pending := rfl
@[simp] theorem State.setStf_observed : (s.setStf b n).observed = s.observed := rfl
@[simp] theorem State.setStf_base : (s.setStf b n).base = s.base := rfl

end

section
variable (s : State) (v : BitVec 16) (n : BitVec 5)

@[simp] theorem State.setIds_status : (s.setIds v n).status = s.status := rfl
@[simp] theorem State.setIds_poly : (s.setIds v n).poly = s.poly := rfl
@[simp] theorem State.setIds_id : (s.setIds v n).id = s.id := rfl
@[simp] theorem State.setIds_dlc : (s.setIds v n).dlc = s.dlc := rfl
@[simp] theorem State.setIds_ack : (s.setIds v n).ack = s.ack := rfl
@[simp] theorem State.setIds_crc : (s.setIds v n).crc = s.crc := rfl
@[simp] theorem State.setIds_round : (s.setIds v n).round = s.round := rfl
@[simp] theorem State.setIds_sender : (s.setIds v n).sender = s.sender := rfl
@[simp] theorem State.setIds_crcCalc : (s.setIds v n).crcCalc = s.crcCalc := rfl
@[simp] theorem State.setIds_rawLen : (s.setIds v n).rawLen = s.rawLen := rfl
@[simp] theorem State.setIds_stfLen : (s.setIds v n).stfLen = s.stfLen := rfl
@[simp] theorem State.setIds_ids : (s.setIds v n).ids = v := rfl
@[simp] theorem State.setIds_idsLen : (s.setIds v n).idsLen = n := rfl
@[simp] theorem State.setIds_contMask : (s.setIds v n).contMask = s.contMask := rfl
@[simp] theorem State.setIds_winSlot : (s.setIds v n).winSlot = s.winSlot := rfl
@[simp] theorem State.setIds_survMask : (s.setIds v n).survMask = s.survMask := rfl
@[simp] theorem State.setIds_loseMask : (s.setIds v n).loseMask = s.loseMask := rfl
@[simp] theorem State.setIds_arbWidth : (s.setIds v n).arbWidth = s.arbWidth := rfl
@[simp] theorem State.setIds_data : (s.setIds v n).data = s.data := rfl
@[simp] theorem State.setIds_raw : (s.setIds v n).raw = s.raw := rfl
@[simp] theorem State.setIds_stf : (s.setIds v n).stf = s.stf := rfl
@[simp] theorem State.setIds_slotId : (s.setIds v n).slotId = s.slotId := rfl
@[simp] theorem State.setIds_histCont : (s.setIds v n).histCont = s.histCont := rfl
@[simp] theorem State.setIds_histBits : (s.setIds v n).histBits = s.histBits := rfl
@[simp] theorem State.setIds_basePage : (s.setIds v n).basePage = s.basePage := rfl
@[simp] theorem State.setIds_pending : (s.setIds v n).pending = s.pending := rfl
@[simp] theorem State.setIds_observed : (s.setIds v n).observed = s.observed := rfl
@[simp] theorem State.setIds_base : (s.setIds v n).base = s.base := rfl

end

section
variable (s : State) (v : BitVec 11)

@[simp] theorem State.setId_status : (s.setId v).status = s.status := rfl
@[simp] theorem State.setId_poly : (s.setId v).poly = s.poly := rfl
@[simp] theorem State.setId_id : (s.setId v).id = v := rfl
@[simp] theorem State.setId_dlc : (s.setId v).dlc = s.dlc := rfl
@[simp] theorem State.setId_ack : (s.setId v).ack = s.ack := rfl
@[simp] theorem State.setId_crc : (s.setId v).crc = s.crc := rfl
@[simp] theorem State.setId_round : (s.setId v).round = s.round := rfl
@[simp] theorem State.setId_sender : (s.setId v).sender = s.sender := rfl
@[simp] theorem State.setId_crcCalc : (s.setId v).crcCalc = s.crcCalc := rfl
@[simp] theorem State.setId_rawLen : (s.setId v).rawLen = s.rawLen := rfl
@[simp] theorem State.setId_stfLen : (s.setId v).stfLen = s.stfLen := rfl
@[simp] theorem State.setId_ids : (s.setId v).ids = s.ids := rfl
@[simp] theorem State.setId_idsLen : (s.setId v).idsLen = s.idsLen := rfl
@[simp] theorem State.setId_contMask : (s.setId v).contMask = s.contMask := rfl
@[simp] theorem State.setId_winSlot : (s.setId v).winSlot = s.winSlot := rfl
@[simp] theorem State.setId_survMask : (s.setId v).survMask = s.survMask := rfl
@[simp] theorem State.setId_loseMask : (s.setId v).loseMask = s.loseMask := rfl
@[simp] theorem State.setId_arbWidth : (s.setId v).arbWidth = s.arbWidth := rfl
@[simp] theorem State.setId_data : (s.setId v).data = s.data := rfl
@[simp] theorem State.setId_raw : (s.setId v).raw = s.raw := rfl
@[simp] theorem State.setId_stf : (s.setId v).stf = s.stf := rfl
@[simp] theorem State.setId_slotId : (s.setId v).slotId = s.slotId := rfl
@[simp] theorem State.setId_histCont : (s.setId v).histCont = s.histCont := rfl
@[simp] theorem State.setId_histBits : (s.setId v).histBits = s.histBits := rfl
@[simp] theorem State.setId_basePage : (s.setId v).basePage = s.basePage := rfl
@[simp] theorem State.setId_pending : (s.setId v).pending = s.pending := rfl
@[simp] theorem State.setId_observed : (s.setId v).observed = s.observed := rfl
@[simp] theorem State.setId_base : (s.setId v).base = s.base := rfl

end

section
variable (s : State) (i : BitVec 11) (d : Vector (BitVec 8) 8) (a : BitVec 1) (c r : BitVec 16) (x : BitVec 8)

@[simp] theorem State.setFrame_status : (s.setFrame i d a c r x).status = s.status := rfl
@[simp] theorem State.setFrame_poly : (s.setFrame i d a c r x).poly = s.poly := rfl
@[simp] theorem State.setFrame_id : (s.setFrame i d a c r x).id = i := rfl
@[simp] theorem State.setFrame_dlc : (s.setFrame i d a c r x).dlc = s.dlc := rfl
@[simp] theorem State.setFrame_ack : (s.setFrame i d a c r x).ack = a := rfl
@[simp] theorem State.setFrame_crc : (s.setFrame i d a c r x).crc = c := rfl
@[simp] theorem State.setFrame_round : (s.setFrame i d a c r x).round = r := rfl
@[simp] theorem State.setFrame_sender : (s.setFrame i d a c r x).sender = x := rfl
@[simp] theorem State.setFrame_crcCalc : (s.setFrame i d a c r x).crcCalc = s.crcCalc := rfl
@[simp] theorem State.setFrame_rawLen : (s.setFrame i d a c r x).rawLen = s.rawLen := rfl
@[simp] theorem State.setFrame_stfLen : (s.setFrame i d a c r x).stfLen = s.stfLen := rfl
@[simp] theorem State.setFrame_ids : (s.setFrame i d a c r x).ids = s.ids := rfl
@[simp] theorem State.setFrame_idsLen : (s.setFrame i d a c r x).idsLen = s.idsLen := rfl
@[simp] theorem State.setFrame_contMask : (s.setFrame i d a c r x).contMask = s.contMask := rfl
@[simp] theorem State.setFrame_winSlot : (s.setFrame i d a c r x).winSlot = s.winSlot := rfl
@[simp] theorem State.setFrame_survMask : (s.setFrame i d a c r x).survMask = s.survMask := rfl
@[simp] theorem State.setFrame_loseMask : (s.setFrame i d a c r x).loseMask = s.loseMask := rfl
@[simp] theorem State.setFrame_arbWidth : (s.setFrame i d a c r x).arbWidth = s.arbWidth := rfl
@[simp] theorem State.setFrame_data : (s.setFrame i d a c r x).data = d := rfl
@[simp] theorem State.setFrame_raw : (s.setFrame i d a c r x).raw = s.raw := rfl
@[simp] theorem State.setFrame_stf : (s.setFrame i d a c r x).stf = s.stf := rfl
@[simp] theorem State.setFrame_slotId : (s.setFrame i d a c r x).slotId = s.slotId := rfl
@[simp] theorem State.setFrame_histCont : (s.setFrame i d a c r x).histCont = s.histCont := rfl
@[simp] theorem State.setFrame_histBits : (s.setFrame i d a c r x).histBits = s.histBits := rfl
@[simp] theorem State.setFrame_basePage : (s.setFrame i d a c r x).basePage = s.basePage := rfl
@[simp] theorem State.setFrame_pending : (s.setFrame i d a c r x).pending = s.pending := rfl
@[simp] theorem State.setFrame_observed : (s.setFrame i d a c r x).observed = s.observed := rfl
@[simp] theorem State.setFrame_base : (s.setFrame i d a c r x).base = s.base := rfl

end

section
variable (s : State) (w : BitVec 5) (u l : Word) (n : BitVec 5)

@[simp] theorem State.setArb_status : (s.setArb w u l n).status = s.status := rfl
@[simp] theorem State.setArb_poly : (s.setArb w u l n).poly = s.poly := rfl
@[simp] theorem State.setArb_id : (s.setArb w u l n).id = s.id := rfl
@[simp] theorem State.setArb_dlc : (s.setArb w u l n).dlc = s.dlc := rfl
@[simp] theorem State.setArb_ack : (s.setArb w u l n).ack = s.ack := rfl
@[simp] theorem State.setArb_crc : (s.setArb w u l n).crc = s.crc := rfl
@[simp] theorem State.setArb_round : (s.setArb w u l n).round = s.round := rfl
@[simp] theorem State.setArb_sender : (s.setArb w u l n).sender = s.sender := rfl
@[simp] theorem State.setArb_crcCalc : (s.setArb w u l n).crcCalc = s.crcCalc := rfl
@[simp] theorem State.setArb_rawLen : (s.setArb w u l n).rawLen = s.rawLen := rfl
@[simp] theorem State.setArb_stfLen : (s.setArb w u l n).stfLen = s.stfLen := rfl
@[simp] theorem State.setArb_ids : (s.setArb w u l n).ids = s.ids := rfl
@[simp] theorem State.setArb_idsLen : (s.setArb w u l n).idsLen = s.idsLen := rfl
@[simp] theorem State.setArb_contMask : (s.setArb w u l n).contMask = s.contMask := rfl
@[simp] theorem State.setArb_winSlot : (s.setArb w u l n).winSlot = w := rfl
@[simp] theorem State.setArb_survMask : (s.setArb w u l n).survMask = u := rfl
@[simp] theorem State.setArb_loseMask : (s.setArb w u l n).loseMask = l := rfl
@[simp] theorem State.setArb_arbWidth : (s.setArb w u l n).arbWidth = n := rfl
@[simp] theorem State.setArb_data : (s.setArb w u l n).data = s.data := rfl
@[simp] theorem State.setArb_raw : (s.setArb w u l n).raw = s.raw := rfl
@[simp] theorem State.setArb_stf : (s.setArb w u l n).stf = s.stf := rfl
@[simp] theorem State.setArb_slotId : (s.setArb w u l n).slotId = s.slotId := rfl
@[simp] theorem State.setArb_histCont : (s.setArb w u l n).histCont = s.histCont := rfl
@[simp] theorem State.setArb_histBits : (s.setArb w u l n).histBits = s.histBits := rfl
@[simp] theorem State.setArb_basePage : (s.setArb w u l n).basePage = s.basePage := rfl
@[simp] theorem State.setArb_pending : (s.setArb w u l n).pending = s.pending := rfl
@[simp] theorem State.setArb_observed : (s.setArb w u l n).observed = s.observed := rfl
@[simp] theorem State.setArb_base : (s.setArb w u l n).base = s.base := rfl

end

section
variable (s : State) (c b : History)

@[simp] theorem State.setHist_status : (s.setHist c b).status = s.status := rfl
@[simp] theorem State.setHist_poly : (s.setHist c b).poly = s.poly := rfl
@[simp] theorem State.setHist_id : (s.setHist c b).id = s.id := rfl
@[simp] theorem State.setHist_dlc : (s.setHist c b).dlc = s.dlc := rfl
@[simp] theorem State.setHist_ack : (s.setHist c b).ack = s.ack := rfl
@[simp] theorem State.setHist_crc : (s.setHist c b).crc = s.crc := rfl
@[simp] theorem State.setHist_round : (s.setHist c b).round = s.round := rfl
@[simp] theorem State.setHist_sender : (s.setHist c b).sender = s.sender := rfl
@[simp] theorem State.setHist_crcCalc : (s.setHist c b).crcCalc = s.crcCalc := rfl
@[simp] theorem State.setHist_rawLen : (s.setHist c b).rawLen = s.rawLen := rfl
@[simp] theorem State.setHist_stfLen : (s.setHist c b).stfLen = s.stfLen := rfl
@[simp] theorem State.setHist_ids : (s.setHist c b).ids = s.ids := rfl
@[simp] theorem State.setHist_idsLen : (s.setHist c b).idsLen = s.idsLen := rfl
@[simp] theorem State.setHist_contMask : (s.setHist c b).contMask = s.contMask := rfl
@[simp] theorem State.setHist_winSlot : (s.setHist c b).winSlot = s.winSlot := rfl
@[simp] theorem State.setHist_survMask : (s.setHist c b).survMask = s.survMask := rfl
@[simp] theorem State.setHist_loseMask : (s.setHist c b).loseMask = s.loseMask := rfl
@[simp] theorem State.setHist_arbWidth : (s.setHist c b).arbWidth = s.arbWidth := rfl
@[simp] theorem State.setHist_data : (s.setHist c b).data = s.data := rfl
@[simp] theorem State.setHist_raw : (s.setHist c b).raw = s.raw := rfl
@[simp] theorem State.setHist_stf : (s.setHist c b).stf = s.stf := rfl
@[simp] theorem State.setHist_slotId : (s.setHist c b).slotId = s.slotId := rfl
@[simp] theorem State.setHist_histCont : (s.setHist c b).histCont = c := rfl
@[simp] theorem State.setHist_histBits : (s.setHist c b).histBits = b := rfl
@[simp] theorem State.setHist_basePage : (s.setHist c b).basePage = s.basePage := rfl
@[simp] theorem State.setHist_pending : (s.setHist c b).pending = s.pending := rfl
@[simp] theorem State.setHist_observed : (s.setHist c b).observed = s.observed := rfl
@[simp] theorem State.setHist_base : (s.setHist c b).base = s.base := rfl

end

section
variable (s : State) (es : List HostEvent)

@[simp] theorem State.setPending_status : (s.setPending es).status = s.status := rfl
@[simp] theorem State.setPending_poly : (s.setPending es).poly = s.poly := rfl
@[simp] theorem State.setPending_id : (s.setPending es).id = s.id := rfl
@[simp] theorem State.setPending_dlc : (s.setPending es).dlc = s.dlc := rfl
@[simp] theorem State.setPending_ack : (s.setPending es).ack = s.ack := rfl
@[simp] theorem State.setPending_crc : (s.setPending es).crc = s.crc := rfl
@[simp] theorem State.setPending_round : (s.setPending es).round = s.round := rfl
@[simp] theorem State.setPending_sender : (s.setPending es).sender = s.sender := rfl
@[simp] theorem State.setPending_crcCalc : (s.setPending es).crcCalc = s.crcCalc := rfl
@[simp] theorem State.setPending_rawLen : (s.setPending es).rawLen = s.rawLen := rfl
@[simp] theorem State.setPending_stfLen : (s.setPending es).stfLen = s.stfLen := rfl
@[simp] theorem State.setPending_ids : (s.setPending es).ids = s.ids := rfl
@[simp] theorem State.setPending_idsLen : (s.setPending es).idsLen = s.idsLen := rfl
@[simp] theorem State.setPending_contMask : (s.setPending es).contMask = s.contMask := rfl
@[simp] theorem State.setPending_winSlot : (s.setPending es).winSlot = s.winSlot := rfl
@[simp] theorem State.setPending_survMask : (s.setPending es).survMask = s.survMask := rfl
@[simp] theorem State.setPending_loseMask : (s.setPending es).loseMask = s.loseMask := rfl
@[simp] theorem State.setPending_arbWidth : (s.setPending es).arbWidth = s.arbWidth := rfl
@[simp] theorem State.setPending_data : (s.setPending es).data = s.data := rfl
@[simp] theorem State.setPending_raw : (s.setPending es).raw = s.raw := rfl
@[simp] theorem State.setPending_stf : (s.setPending es).stf = s.stf := rfl
@[simp] theorem State.setPending_slotId : (s.setPending es).slotId = s.slotId := rfl
@[simp] theorem State.setPending_histCont : (s.setPending es).histCont = s.histCont := rfl
@[simp] theorem State.setPending_histBits : (s.setPending es).histBits = s.histBits := rfl
@[simp] theorem State.setPending_basePage : (s.setPending es).basePage = s.basePage := rfl
@[simp] theorem State.setPending_pending : (s.setPending es).pending = es := rfl
@[simp] theorem State.setPending_observed : (s.setPending es).observed = s.observed := rfl
@[simp] theorem State.setPending_base : (s.setPending es).base = s.base := rfl

end

section
variable (s : State) (v : Word)

@[simp] theorem State.observe_status : (s.observe v).status = s.status := rfl
@[simp] theorem State.observe_poly : (s.observe v).poly = s.poly := rfl
@[simp] theorem State.observe_id : (s.observe v).id = s.id := rfl
@[simp] theorem State.observe_dlc : (s.observe v).dlc = s.dlc := rfl
@[simp] theorem State.observe_ack : (s.observe v).ack = s.ack := rfl
@[simp] theorem State.observe_crc : (s.observe v).crc = s.crc := rfl
@[simp] theorem State.observe_round : (s.observe v).round = s.round := rfl
@[simp] theorem State.observe_sender : (s.observe v).sender = s.sender := rfl
@[simp] theorem State.observe_crcCalc : (s.observe v).crcCalc = s.crcCalc := rfl
@[simp] theorem State.observe_rawLen : (s.observe v).rawLen = s.rawLen := rfl
@[simp] theorem State.observe_stfLen : (s.observe v).stfLen = s.stfLen := rfl
@[simp] theorem State.observe_ids : (s.observe v).ids = s.ids := rfl
@[simp] theorem State.observe_idsLen : (s.observe v).idsLen = s.idsLen := rfl
@[simp] theorem State.observe_contMask : (s.observe v).contMask = s.contMask := rfl
@[simp] theorem State.observe_winSlot : (s.observe v).winSlot = s.winSlot := rfl
@[simp] theorem State.observe_survMask : (s.observe v).survMask = s.survMask := rfl
@[simp] theorem State.observe_loseMask : (s.observe v).loseMask = s.loseMask := rfl
@[simp] theorem State.observe_arbWidth : (s.observe v).arbWidth = s.arbWidth := rfl
@[simp] theorem State.observe_data : (s.observe v).data = s.data := rfl
@[simp] theorem State.observe_raw : (s.observe v).raw = s.raw := rfl
@[simp] theorem State.observe_stf : (s.observe v).stf = s.stf := rfl
@[simp] theorem State.observe_slotId : (s.observe v).slotId = s.slotId := rfl
@[simp] theorem State.observe_histCont : (s.observe v).histCont = s.histCont := rfl
@[simp] theorem State.observe_histBits : (s.observe v).histBits = s.histBits := rfl
@[simp] theorem State.observe_basePage : (s.observe v).basePage = s.basePage := rfl
@[simp] theorem State.observe_pending : (s.observe v).pending = s.pending := rfl
@[simp] theorem State.observe_observed : (s.observe v).observed = s.observed ++ [v] := rfl
@[simp] theorem State.observe_base : (s.observe v).base = s.base := rfl

end

/-- Two updates of one register group: the later one stands. -/
@[simp] theorem State.setStatus_setStatus (s : State) (a b : Status) :
    (s.setStatus a).setStatus b = s.setStatus b := rfl

@[simp] theorem State.setPending_setPending (s : State) (a b : List HostEvent) :
    (s.setPending a).setPending b = s.setPending b := rfl

@[simp] theorem State.resetAt_basePage (page : Nat) : (State.resetAt page).basePage = page := rfl

end Sys2Proof.Machine
end

