-- ==== Sys2Proof/Laws/Ops.lean ====
section
/-! SUPPORT. What each shared operation and each command can do: one inversion lemma per meaning
("if it answers `next t`, then one of these holds"), so that proofs do not unfold it again. -/

namespace Sys2Proof.Machine

theorem finish_next {st : Status} {s t : State} : finish st s = .next t ↔ t = s.setStatus st := by
  simp [finish, eq_comm]

theorem raiseCmdError_next {e : CmdError} {s t : State} :
    raiseCmdError e s = .next t ↔ t = s.setStatus (.ofError e) := by
  simp [raiseCmdError, eq_comm]

theorem execNop_next {s t : State} (h : execNop s = .next t) : t = s.setStatus .clear :=
  finish_next.1 h

theorem execCrcGen_next {fe : Bool} {s t : State} (h : execCrcGen fe s = .next t) :
    (8 < s.dlc.toNat ∧ t = s.setStatus (.ofError .payload)) ∨
      (s.dlc.toNat ≤ 8 ∧
        t = ((s.setCrc (crcValue fe s)).setCrcCalc (crcValue fe s)).setStatus .clear) := by
  unfold execCrcGen at h
  split at h
  · exact .inl ⟨‹_›, raiseCmdError_next.1 h⟩
  · exact .inr ⟨Nat.le_of_not_lt ‹_›, finish_next.1 h⟩

theorem execCrcCheck_next {fe : Bool} {s t : State} (h : execCrcCheck fe s = .next t) :
    (8 < s.dlc.toNat ∧ t = s.setStatus (.ofError .payload)) ∨
      (s.dlc.toNat ≤ 8 ∧
        t = (s.setCrcCalc (crcValue fe s)).setStatus (.ofMatch (crcValue fe s == s.crc))) := by
  unfold execCrcCheck at h
  split at h
  · exact .inl ⟨‹_›, raiseCmdError_next.1 h⟩
  · exact .inr ⟨Nat.le_of_not_lt ‹_›, finish_next.1 h⟩

theorem execPack_next {s t : State} (h : execPack s = .next t) :
    (8 < s.dlc.toNat ∧ t = s.setStatus (.ofError .payload)) ∨
      (s.dlc.toNat ≤ 8 ∧ t = (s.setRaw (bufPut (frameString s)) 116).setStatus .clear) := by
  unfold execPack at h
  split at h
  · exact .inl ⟨‹_›, raiseCmdError_next.1 h⟩
  · exact .inr ⟨Nat.le_of_not_lt ‹_›, finish_next.1 h⟩

theorem execUnpack_next {s t : State} (h : execUnpack s = .next t) :
    (s.rawLen.toNat ≠ 116 ∧ t = s.setStatus (.ofError .length)) ∨
      (s.rawLen.toNat = 116 ∧
        t = (s.setFrame (frameField 11 (rawString s) 0)
          (Vector.ofFn fun k => frameField 8 (rawString s) (11 + 8 * k.val))
          (frameField 1 (rawString s) 75) (frameField 16 (rawString s) 76)
          (frameField 16 (rawString s) 92) (frameField 8 (rawString s) 108)).setStatus .clear) := by
  unfold execUnpack at h
  split at h
  · exact .inl ⟨‹_›, raiseCmdError_next.1 h⟩
  · exact .inr ⟨Decidable.not_not.1 ‹_›, finish_next.1 h⟩

theorem execStuff_next {s t : State} (h : execStuff s = .next t) :
    (160 < s.rawLen.toNat ∧ t = s.setStatus (.ofError .length)) ∨
      (s.rawLen.toNat ≤ 160 ∧ 160 < (stuffBits (rawString s)).length ∧
        t = s.setStatus (.ofError .overflow)) ∨
      (s.rawLen.toNat ≤ 160 ∧ (stuffBits (rawString s)).length ≤ 160 ∧
        t = (s.setStf (bufPut (stuffBits (rawString s)))
          (BitVec.ofNat 8 (stuffBits (rawString s)).length)).setStatus .clear) := by
  unfold execStuff at h
  split at h
  · exact .inl ⟨‹_›, raiseCmdError_next.1 h⟩
  next h1 =>
    split at h
    next h2 => exact .inr (.inl ⟨Nat.le_of_not_lt h1, h2, raiseCmdError_next.1 h⟩)
    next h2 => exact .inr (.inr ⟨Nat.le_of_not_lt h1, Nat.le_of_not_lt h2, finish_next.1 h⟩)

theorem execDestuff_next {s t : State} (h : execDestuff s = .next t) :
    (160 < s.stfLen.toNat ∧ t = s.setStatus (.ofError .length)) ∨
      (s.stfLen.toNat ≤ 160 ∧
        t = (s.setRaw (bufPut (destuffBits (stfString s)))
          (BitVec.ofNat 8 (destuffBits (stfString s)).length)).setStatus .clear) := by
  unfold execDestuff at h
  split at h
  · exact .inl ⟨‹_›, raiseCmdError_next.1 h⟩
  · exact .inr ⟨Nat.le_of_not_lt ‹_›, finish_next.1 h⟩

theorem execIdStuff_next {s t : State} (h : execIdStuff s = .next t) :
    t = (s.setIds (BitVec.ofNat 16 (intOf (stuffBits (idString s.id))))
      (BitVec.ofNat 5 (stuffBits (idString s.id)).length)).setStatus .clear :=
  finish_next.1 h

theorem execIdExtract_next {s t : State} (h : execIdExtract s = .next t) :
    (16 < s.idsLen.toNat ∧ t = s.setStatus (.ofError .fieldLen)) ∨
      (s.idsLen.toNat ≤ 16 ∧ 0x7FF < intOf (destuffBits (idsString s)) ∧
        t = s.setStatus (.ofError .idRange)) ∨
      (s.idsLen.toNat ≤ 16 ∧ intOf (destuffBits (idsString s)) ≤ 0x7FF ∧
        t = (s.setId (BitVec.ofNat 11 (intOf (destuffBits (idsString s))))).setStatus .clear) := by
  unfold execIdExtract at h
  split at h
  · exact .inl ⟨‹_›, raiseCmdError_next.1 h⟩
  next h1 =>
    split at h
    next h2 => exact .inr (.inl ⟨Nat.le_of_not_lt h1, h2, raiseCmdError_next.1 h⟩)
    next h2 => exact .inr (.inr ⟨Nat.le_of_not_lt h1, Nat.le_of_not_lt h2, finish_next.1 h⟩)

theorem execArbitrate_next {sm : Bool} {s t : State} (h : execArbitrate sm s = .next t) :
    (s.contMask = 0 ∧
      t = ((s.setArb 0 0 0 0).setHist (historyOf []) (historyOf [])).setStatus .nothing) ∨
    (s.contMask ≠ 0 ∧ ∃ hist cont,
      reduceFrom (slotKeys sm s) (arbitrationWidth sm (slotKeys sm s) s.contMask) 0 s.contMask =
        some (hist, cont) ∧
      t = ((s.setArb (BitVec.ofNat 5 (lowest cont)) cont (s.contMask &&& ~~~cont)
          (BitVec.ofNat 5 (arbitrationWidth sm (slotKeys sm s) s.contMask))).setHist
        (historyOf (hist.map Prod.fst)) (historyOf (hist.map Prod.snd))).setStatus
          (.ofTie (decide (1 < popcount cont)))) := by
  unfold execArbitrate at h
  split at h
  · exact .inl ⟨‹_›, finish_next.1 h⟩
  · split at h
    · cases h
    · exact .inr ⟨‹_›, _, _, ‹_›, finish_next.1 h⟩

/-- The host's fields stand outside the block: no command touches them. -/
theorem exec_keeps_host {i : Instr} {s t : State} (h : exec i s = .next t) :
    t.pending = s.pending ∧ t.observed = s.observed ∧ t.basePage = s.basePage := by
  cases i with
  | nop => rw [execNop_next h]; exact ⟨rfl, rfl, rfl⟩
  | crcGen fe => obtain ⟨-, rfl⟩ | ⟨-, rfl⟩ := execCrcGen_next h <;> exact ⟨rfl, rfl, rfl⟩
  | crcCheck fe => obtain ⟨-, rfl⟩ | ⟨-, rfl⟩ := execCrcCheck_next h <;> exact ⟨rfl, rfl, rfl⟩
  | pack => obtain ⟨-, rfl⟩ | ⟨-, rfl⟩ := execPack_next h <;> exact ⟨rfl, rfl, rfl⟩
  | unpack => obtain ⟨-, rfl⟩ | ⟨-, rfl⟩ := execUnpack_next h <;> exact ⟨rfl, rfl, rfl⟩
  | stuff =>
    obtain ⟨-, rfl⟩ | ⟨-, -, rfl⟩ | ⟨-, -, rfl⟩ := execStuff_next h <;> exact ⟨rfl, rfl, rfl⟩
  | destuff => obtain ⟨-, rfl⟩ | ⟨-, rfl⟩ := execDestuff_next h <;> exact ⟨rfl, rfl, rfl⟩
  | idStuff => rw [execIdStuff_next h]; exact ⟨rfl, rfl, rfl⟩
  | idExtract =>
    obtain ⟨-, rfl⟩ | ⟨-, -, rfl⟩ | ⟨-, -, rfl⟩ := execIdExtract_next h <;> exact ⟨rfl, rfl, rfl⟩
  | arbitrate sm =>
    obtain ⟨-, rfl⟩ | ⟨-, _, _, -, rfl⟩ := execArbitrate_next h <;> exact ⟨rfl, rfl, rfl⟩

end Sys2Proof.Machine
end

