-- ==== Sys2Proof/Laws/Access.lean ====
section
/-! SUPPORT. What a step does for each kind of host event, and when an access is refused
(20_memory.md rules R28 to R30). -/

namespace Sys2Proof.Machine

theorem step_idle {s : State} (h : s.pending = []) : step s = .next s := by
  simp [step, hostStep, h]

theorem step_reset {s : State} {rest : List HostEvent} (h : s.pending = .reset :: rest) :
    step s = hostReset (s.setPending rest) := by
  simp [step, hostStep, h]

theorem step_read {s : State} {addr size : Nat} {rest : List HostEvent}
    (h : s.pending = .read addr size :: rest) :
    step s = hostRead (s.setPending rest) addr size := by
  simp [step, hostStep, h]

theorem step_write {s : State} {addr size : Nat} {v : Word} {rest : List HostEvent}
    (h : s.pending = .write addr size v :: rest) :
    step s = hostWrite exec (s.setPending rest) addr size v := by
  simp [step, hostStep, h]

/-- No refusal exactly for the accesses of the interface (R30). -/
theorem accessRefusal_none {s : State} {addr size : Nat} :
    accessRefusal s addr size = none ↔ legalAccess s.base addr size = true := by
  unfold accessRefusal legalAccess
  split
  · simp_all
  · split
    · simp_all; omega
    · split <;> simp_all

theorem hostRead_legal {s : State} {addr size : Nat} (h : legalAccess s.base addr size = true) :
    hostRead s addr size = .next (s.observe (readAt s addr)) := by
  simp [hostRead, accessRefusal_none.2 h]

theorem hostWrite_legal {run : Instr → State → Result} {s : State} {addr size : Nat} {v : Word}
    (h : legalAccess s.base addr size = true) :
    hostWrite run s addr size v =
      if addr = s.base + Reg.offset .cmd then hostCommand run s v else .next (writeAt s addr v) := by
  simp [hostWrite, accessRefusal_none.2 h]

/-- A CMD write of a word that decodes runs the command (R49). -/
theorem hostCommand_ok {run : Instr → State → Result} {s : State} {w : Word} {i : Instr}
    (h : decode w = .ok i) : hostCommand run s w = run i s := by
  simp [hostCommand, h]

/-- A CMD write of any other word raises E_ILLEGAL (R49). -/
theorem hostCommand_error {run : Instr → State → Result} {s : State} {w : Word} {e : DecodeError}
    (h : decode w = .error e) :
    hostCommand run s w = .next (s.setStatus (.ofError .illegal)) := by
  simp [hostCommand, h, illegalWord, raiseCmdError]

theorem writeReg_keeps_host (s : State) (v : Word) (r : Reg) :
    (writeReg s v r).pending = s.pending ∧ (writeReg s v r).observed = s.observed ∧
      (writeReg s v r).basePage = s.basePage := by
  cases r <;> exact ⟨rfl, rfl, rfl⟩

end Sys2Proof.Machine
end

