-- ==== Sys2Proof/Laws/Arbitration.lean ====
section
/-! SUPPORT. Masks and slot lists are the same sets (42_arbitration.md rules R72, R73). -/

namespace Sys2Proof.Machine

theorem mem_slotsOf {m : Word} {s : Nat} : s ∈ slotsOf m ↔ s < 32 ∧ m.getLsbD s = true := by
  simp [slotsOf]

theorem foldl_mask_getLsbD (l : List Nat) (m : Word) (s : Nat) (h : s < 32) :
    (l.foldl (fun m s => m ||| (1#32 <<< s)) m).getLsbD s = (m.getLsbD s || decide (s ∈ l)) := by
  induction l generalizing m with
  | nil => simp
  | cons a l ih =>
    rw [List.foldl_cons, ih, BitVec.getLsbD_or]
    have h1 : (1#32 <<< a).getLsbD s = decide (s = a) := by
      simp only [BitVec.getLsbD_shiftLeft, h, decide_true, Bool.true_and, BitVec.getLsbD_one]
      by_cases hs : s < a
      · simp [hs]; omega
      · by_cases he : s = a
        · subst he; simp
        · simp [hs, he]; omega
    rw [h1]
    simp [Bool.or_assoc]

/-- Bit `s` of the mask of a list says whether `s` is in it. -/
theorem maskOf_getLsbD (l : List Nat) (s : Nat) (h : s < 32) :
    (maskOf l).getLsbD s = decide (s ∈ l) := by
  rw [maskOf, foldl_mask_getLsbD _ _ _ h]; simp

theorem maskOf_slotsOf (m : Word) : maskOf (slotsOf m) = m := by
  apply BitVec.eq_of_getLsbD_eq
  intro i h
  rw [maskOf_getLsbD _ _ h]
  simp [mem_slotsOf, h]

/-- A mask is 0 exactly when it names no slot. -/
theorem slotsOf_eq_nil {m : Word} : slotsOf m = [] ↔ m = 0 := by
  constructor
  · intro h; rw [← maskOf_slotsOf m, h]; rfl
  · rintro rfl; decide

/-- A visit never empties the running group. -/
theorem visitSlot_ne_nil (keys : List Bits) (p : Nat) (group : List Nat) (s : Nat) :
    visitSlot keys p group s ≠ [] := by
  unfold visitSlot
  split
  · simp
  · split
    · simp
    · split <;> simp

/-- The running group after the visits of a list: those that drive 0, or all if none does (R74
item 1); visits of at least one slot leave it non-empty. -/
theorem foldl_visitSlot (keys : List Bits) (p : Nat) (l : List Nat) :
    (∀ s, s ∈ l.foldl (visitSlot keys p) [] ↔
      s ∈ l ∧ (keyBit keys p s = false ∨ ∀ t ∈ l, keyBit keys p t = true)) ∧
    (l ≠ [] → l.foldl (visitSlot keys p) [] ≠ []) := by
  induction l using List.reverseRecOn with
  | nil => simp
  | append_singleton l a ih =>
    obtain ⟨hm, hn⟩ := ih
    rw [List.foldl_append, List.foldl_cons, List.foldl_nil]
    refine ⟨fun s => ?_, fun _ => visitSlot_ne_nil keys p _ a⟩
    cases hg : l.foldl (visitSlot keys p) [] with
    | nil =>
      have hl : l = [] := by
        by_contra h
        exact hn h hg
      subst hl
      simp only [visitSlot, List.nil_append, List.mem_singleton]
      constructor
      · rintro rfl
        refine ⟨rfl, ?_⟩
        cases hb : keyBit keys p s <;> simp [hb]
      · exact fun h => h.1
    | cons g rest =>
      rw [hg] at hm
      have hgm := (hm g).1 (List.mem_cons_self ..)
      cases hb : keyBit keys p g with
      | false =>
        have hmem : ∀ s, s ∈ g :: rest ↔ s ∈ l ∧ keyBit keys p s = false := fun s => by
          rw [hm]
          exact ⟨fun h => ⟨h.1, h.2.resolve_right fun ha => by simp [ha g hgm.1] at hb⟩,
            fun h => ⟨h.1, .inl h.2⟩⟩
        have hex : ¬ ∀ t ∈ l ++ [a], keyBit keys p t = true := fun ha => by
          simp [ha g (List.mem_append_left _ hgm.1)] at hb
        cases ha : keyBit keys p a with
        | false =>
          have hv : visitSlot keys p (g :: rest) a = (g :: rest) ++ [a] := by
            simp [visitSlot, ha, hb]
          rw [hv, or_iff_left hex, List.mem_append, hmem, List.mem_append, List.mem_singleton]
          constructor
          · rintro (h | rfl)
            · exact ⟨.inl h.1, h.2⟩
            · exact ⟨.inr rfl, ha⟩
          · rintro ⟨h | rfl, h2⟩
            · exact .inl ⟨h, h2⟩
            · exact .inr rfl
        | true =>
          have hv : visitSlot keys p (g :: rest) a = g :: rest := by simp [visitSlot, ha, hb]
          rw [hv, hmem, or_iff_left hex, List.mem_append, List.mem_singleton]
          constructor
          · exact fun h => ⟨.inl h.1, h.2⟩
          · rintro ⟨h | rfl, h2⟩
            · exact ⟨h, h2⟩
            · simp [ha] at h2
      | true =>
        have hall : ∀ t ∈ l, keyBit keys p t = true := by
          rcases hgm.2 with h | h
          · simp [h] at hb
          · exact h
        have hmem : ∀ s, s ∈ g :: rest ↔ s ∈ l := fun s => by
          rw [hm]
          exact ⟨fun h => h.1, fun h => ⟨h, .inr hall⟩⟩
        cases ha : keyBit keys p a with
        | false =>
          have hv : visitSlot keys p (g :: rest) a = [a] := by simp [visitSlot, ha, hb]
          rw [hv, List.mem_append, List.mem_singleton]
          constructor
          · rintro rfl
            exact ⟨.inr rfl, .inl ha⟩
          · rintro ⟨h | h, h2⟩
            · rcases h2 with h2 | h2
              · simp [hall s h] at h2
              · simp [h2 a (by simp)] at ha
            · exact h
        | true =>
          have hv : visitSlot keys p (g :: rest) a = (g :: rest) ++ [a] := by
            simp [visitSlot, ha, hb]
          rw [hv, List.mem_append, hmem, List.mem_append]
          refine ⟨fun h => ⟨h, .inr fun t ht => ?_⟩, fun h => h.1⟩
          rcases List.mem_append.1 ht with ht | ht
          · exact hall t ht
          · rw [List.mem_singleton.1 ht, ha]

/-- The running group of a position, as a set (R74 item 1). -/
theorem mem_runningGroup {keys : List Bits} {p : Nat} {cont : Word} {s : Nat} :
    s ∈ runningGroup keys p cont ↔
      s ∈ slotsOf cont ∧
        (keyBit keys p s = false ∨ ∀ t ∈ slotsOf cont, keyBit keys p t = true) :=
  (foldl_visitSlot keys p (slotsOf cont)).1 s

/-- A contender set that names a slot has a running group (R76 item 2). -/
theorem runningGroup_ne_nil {keys : List Bits} {p : Nat} {cont : Word} (h : cont ≠ 0) :
    runningGroup keys p cont ≠ [] :=
  (foldl_visitSlot keys p (slotsOf cont)).2 (slotsOf_eq_nil.not.2 h)

/-- Bit `s` of HIST_BITS: a contender's key bit (R73). -/
theorem drivenBits_getLsbD (keys : List Bits) (p : Nat) (cont : Word) (s : Nat) (h : s < 32) :
    (drivenBits keys p cont).getLsbD s = (cont.getLsbD s && keyBit keys p s) := by
  rw [drivenBits, maskOf_getLsbD _ _ h]
  simp [mem_slotsOf, h, Bool.decide_and]

end Sys2Proof.Machine
end

