-- ==== Sys2Proof/Laws/PerInstr.lean ====
section
/-! SUPPORT. Statements made per command: every command's word is a legal word (R48) and uses only
the bits CMD implements, [9:0] (10_state.md rule R13). -/

namespace Sys2Proof.Laws.EncodesLegal

/-- A well-formed command's word is legal and fits the implemented bits of CMD. -/
def Statement (i : Instr) : Prop :=
  i.wellFormed = true → legalWord (encode i) = true ∧ (encode i).toNat < 2 ^ 10

theorem nop : Statement .nop := fun _ => by decide

theorem crcGen (fe : Bool) : Statement (.crcGen fe) := fun _ => by cases fe <;> decide

theorem crcCheck (fe : Bool) : Statement (.crcCheck fe) := fun _ => by cases fe <;> decide

theorem pack : Statement .pack := fun _ => by decide

theorem unpack : Statement .unpack := fun _ => by decide

theorem stuff : Statement .stuff := fun _ => by decide

theorem destuff : Statement .destuff := fun _ => by decide

theorem idStuff : Statement .idStuff := fun _ => by decide

theorem idExtract : Statement .idExtract := fun _ => by decide

theorem arbitrate (sm : Bool) : Statement (.arbitrate sm) := fun _ => by cases sm <;> decide

end Sys2Proof.Laws.EncodesLegal
end

