-- ==== Sys2Proof/Laws/Strings.lean ====
section
/-! SUPPORT. What the bit-string conversions and the bit buffers do: lengths, bits and values
(00_scope.md rule R9, 10_state.md rule R19). -/

namespace Sys2Proof.Machine

@[simp] theorem bitsW_length (w v : Nat) : (bitsW w v).length = w := by simp [bitsW]

theorem bitsW_getElem? (w v i : Nat) (h : i < w) :
    (bitsW w v)[i]? = some (v.testBit (w - 1 - i)) := by
  simp [bitsW, h]

@[simp] theorem bufGet_length (b : Buffer) (n : Nat) : (bufGet b n).length = n := by simp [bufGet]

theorem bufGet_getElem? (b : Buffer) (n i : Nat) (h : i < n) :
    (bufGet b n)[i]? = some (bufBit b i) := by
  simp [bufGet, h]

theorem slice_length (s : Bits) (i n : Nat) (h : i + n ≤ s.length) : (slice s i n).length = n := by
  simp [slice]; omega

theorem slice_getElem? (s : Bits) (i n j : Nat) (h : j < n) : (slice s i n)[j]? = s[i + j]? := by
  simp [slice, h]

@[simp] theorem intOf_nil : intOf [] = 0 := rfl

theorem intOf_concat (s : Bits) (b : Bool) : intOf (s ++ [b]) = 2 * intOf s + b.toNat := by
  simp [intOf]

/-- Splitting a string splits its value. -/
theorem intOf_append (s t : Bits) : intOf (s ++ t) = intOf s * 2 ^ t.length + intOf t := by
  induction t using List.reverseRecOn with
  | nil => simp
  | append_singleton t b ih =>
    rw [← List.append_assoc, intOf_concat, ih, intOf_concat, List.length_append]
    simp [pow_succ]; ring

theorem intOf_lt (s : Bits) : intOf s < 2 ^ s.length := by
  induction s using List.reverseRecOn with
  | nil => simp
  | append_singleton s b ih =>
    rw [intOf_concat, List.length_append, List.length_singleton, pow_succ]
    cases b <;> (simp; omega)

/-- Bit `i` from the right of a string's value is its `i`-th bit from the right. -/
theorem intOf_testBit (s : Bits) (i : Nat) :
    (intOf s).testBit i = if i < s.length then s.getD (s.length - 1 - i) false else false := by
  induction s using List.reverseRecOn generalizing i with
  | nil => simp
  | append_singleton s b ih =>
    rw [intOf_concat]
    cases i with
    | zero => cases b <;> simp [Nat.testBit_zero]
    | succ i =>
      have h : (2 * intOf s + b.toNat).testBit (i + 1) = (intOf s).testBit i := by
        rw [Nat.testBit_succ]; congr 1; cases b <;> (simp; try omega)
      rw [h, ih]
      simp only [List.length_append, List.length_singleton]
      by_cases hi : i < s.length
      · rw [if_pos hi, if_pos (by omega), List.getD_append _ _ _ _ (by omega)]
        congr 1; omega
      · rw [if_neg hi, if_neg (by omega)]

/-- Reading a string back from its value. -/
theorem bitsW_intOf (s : Bits) : bitsW s.length (intOf s) = s := by
  apply List.ext_getElem?
  intro i
  by_cases h : i < s.length
  · rw [bitsW_getElem? _ _ _ h, intOf_testBit, if_pos (by omega),
      show s.length - 1 - (s.length - 1 - i) = i by omega]
    simp [h]
  · simp [h]

/-- `bits_w` then `int` gives `v mod 2^w`. -/
theorem intOf_bitsW (w v : Nat) : intOf (bitsW w v) = v % 2 ^ w := by
  apply Nat.eq_of_testBit_eq
  intro i
  rw [intOf_testBit, Nat.testBit_mod_two_pow, bitsW_length]
  by_cases h : i < w
  · rw [if_pos h, List.getD_eq_getElem?_getD, bitsW_getElem? _ _ _ (by omega),
      show w - 1 - (w - 1 - i) = i by omega]
    simp [h]
  · simp [h]

/-- Bit `i` of a buffer written by `buf_put`. -/
theorem bufWord_getLsbD (s : Bits) (k j : Nat) (h : j < 32) :
    (bufWord s k).getLsbD j = s.getD (32 * k + (31 - j)) false := by
  rw [bufWord, BitVec.getLsbD_ofNat, intOf_testBit]
  simp [h, show 31 - j < 32 by omega]

theorem bufPut_getElem? (s : Bits) (k : Nat) (h : k < 5) : (bufPut s)[k]? = some (bufWord s k) := by
  simp [bufPut, h]

end Sys2Proof.Machine
end

