-- ==== Sys2Proof/Tests/Slice0.lean ====
section
/-! SUPPORT. Tests. Expected values come from 30_encoding.md rule R46 and from 95_test_vectors.md
(the section is named at each test). Then one witness per statement of
Certificates/Slice0/Obligations.lean that has hypotheses, with one per clause at a boundary. -/

namespace Sys2Proof.Tests
open Sys2Proof.Machine

/-! ### Helpers -/

/-- A bit string from digits 0 and 1. -/
def bits (l : List Nat) : Bits := l.map (· == 1)

/-- The STATUS word after a command, 0xDEAD where the command does not complete. -/
def statusAfter (i : Instr) (s : State) : Nat :=
  match exec i s with
  | .next t => t.status.toWord.toNat
  | _ => 0xDEAD

/-- A register after a command, 0xDEAD where the command does not complete. -/
def regAfter (i : Instr) (s : State) (r : Reg) : Nat :=
  match exec i s with
  | .next t => (readReg t r).toNat
  | _ => 0xDEAD

/-- Whether a command answers a next state: then there is `t` with `exec i s = .next t`. -/
def completes (i : Instr) (s : State) : Bool :=
  match exec i s with
  | .next _ => true
  | _ => false

/-- STATUS after one step, 0xDEAD where there is no next state. -/
def statusAfterStep (s : State) : Nat :=
  match step s with
  | .next t => t.status.toWord.toNat
  | _ => 0xDEAD

/-- The value one step observes, 0xDEAD where there is none. -/
def observedAfterStep (s : State) : Nat :=
  match step s with
  | .next t => (t.observed.getD 0 0xDEAD).toNat
  | _ => 0xDEAD

/-- Whether a step is refused. -/
def refusedStep (s : State) : Bool :=
  match step s with
  | .refused _ => true
  | _ => false

/-- The frame of 95_test_vectors.md program P1, at base page 5. -/
def frameP1 : State :=
  { State.resetAt 5 with
    id := 0x002, dlc := 2, data := #v[0xA5, 0x0F, 0x77, 0, 0, 0, 0, 0], crc := 0x7D04, sender := 1 }

/-- RAW of P1's PACK (section 2.4), RAW_LEN 116. -/
def rawP1 : State :=
  { State.resetAt 5 with
    raw := #v[0x0054A1E0, 0, 0x0007D040, 0x00001000, 0], rawLen := 116, dlc := 5,
    data := #v[0, 0, 0, 0, 0, 0x99, 0, 0] }

/-- A state whose contenders are the given identifiers, slot 0 first. -/
def arbState (ids : List (BitVec 11)) (mask : Word) : State :=
  { State.resetAt 5 with
    slotId := Vector.ofFn fun k => ids.getD k.val 0, contMask := mask }

/-- A state with one event to come. -/
def withEvent (s : State) (e : HostEvent) : State := s.setPending [e]

/-! ### Decoding (R46: words written out from the encoding table) -/

theorem test_decode_nop : decode 0x00000000 = .ok .nop := by decide
theorem test_decode_crcGen : decode 0x00000001 = .ok (.crcGen false) := by decide
theorem test_decode_crcGen_fe : decode 0x00000101 = .ok (.crcGen true) := by decide
theorem test_decode_crcCheck : decode 0x00000002 = .ok (.crcCheck false) := by decide
theorem test_decode_crcCheck_fe : decode 0x00000102 = .ok (.crcCheck true) := by decide
theorem test_decode_pack : decode 0x00000003 = .ok .pack := by decide
theorem test_decode_unpack : decode 0x00000004 = .ok .unpack := by decide
theorem test_decode_stuff : decode 0x00000005 = .ok .stuff := by decide
theorem test_decode_destuff : decode 0x00000006 = .ok .destuff := by decide
theorem test_decode_idStuff : decode 0x00000007 = .ok .idStuff := by decide
theorem test_decode_idExtract : decode 0x00000008 = .ok .idExtract := by decide
theorem test_decode_arbitrate : decode 0x00000009 = .ok (.arbitrate false) := by decide
theorem test_decode_arbitrate_sm : decode 0x00000209 = .ok (.arbitrate true) := by decide

/-- Section 2.7: illegal words, each refused by the name of its case. -/
theorem test_decode_illegal :
    decode 0x0000000A = .error .opcode ∧ decode 0x000000FF = .error .opcode ∧
      decode 0x00000400 = .error .reservedBits ∧ decode 0x80000001 = .error .reservedBits ∧
      decode 0x00000100 = .error .misplacedFe ∧ decode 0x00000103 = .error .misplacedFe ∧
      decode 0x00000109 = .error .misplacedFe ∧ decode 0x00000309 = .error .misplacedFe ∧
      decode 0x00000201 = .error .misplacedSm ∧ decode 0x00000301 = .error .misplacedSm := by
  decide

/-! ### Well-formedness smoke: an ill-formed term for each check -/

/-- Each case of R48 alone makes a word illegal: OP, reserved bits, FE, SM. -/
theorem test_wellFormed_word :
    legalWord 0x0000000A = false ∧ legalWord 0x00000401 = false ∧ legalWord 0x00000103 = false ∧
      legalWord 0x00000201 = false ∧ legalWord 0x00000101 = true := by
  decide

/-- Each condition of R30 alone: width, alignment, below the window, above it. -/
theorem test_wellFormed_access :
    legalAccess 0x5000 0x5004 2 = false ∧ legalAccess 0x5000 0x5002 4 = false ∧
      legalAccess 0x5000 0x4FFC 4 = false ∧ legalAccess 0x5000 0x6000 4 = false ∧
      legalAccess 0x5000 0x5FFC 4 = true := by
  decide

/-- A command has only single-bit operands (R47), so none is ill formed. -/
theorem test_wellFormed_instr :
    (Instr.crcGen true).wellFormed = true ∧ (Instr.arbitrate true).wellFormed = true := by
  decide

/-! ### Commands -/

/-- R77 example. -/
theorem test_nop_clears :
    statusAfter .nop { State.resetAt 5 with status := statusFailed 2 } = 0 := by decide

/-- Section 2.2: DATA2 = 0x77 is beyond DLC. -/
theorem test_crcGen : regAfter (.crcGen false) frameP1 .crc = 0x7D04 := by decide

/-- Section 2.2: E_PAYLOAD comes before FE, and CRC keeps its value. -/
theorem test_crcGen_payload :
    statusAfter (.crcGen true) { frameP1 with dlc := 9 } = 0x201 ∧
      regAfter (.crcGen true) { frameP1 with dlc := 9 } .crc = 0x7D04 := by decide

/-- Section 2.2: a match, and CRC_CALC. -/
theorem test_crcCheck :
    statusAfter (.crcCheck false) frameP1 = 2 ∧
      regAfter (.crcCheck false) frameP1 .crcCalc = 0x7D04 := by decide

/-- Section 2.2: the faulty receiver; CRC is not written. -/
theorem test_crcCheck_fe :
    statusAfter (.crcCheck true) frameP1 = 0 ∧
      regAfter (.crcCheck true) frameP1 .crc = 0x7D04 := by decide

/-- Section 2.4, first PACK row. -/
theorem test_pack :
    regAfter .pack frameP1 (.raw 0) = 0x0054A1E0 ∧ regAfter .pack frameP1 (.raw 2) = 0x0007D040 ∧
      regAfter .pack frameP1 (.raw 3) = 0x00001000 ∧ regAfter .pack frameP1 .rawLen = 116 := by
  decide

/-- Section 2.4: all eight payload registers are written, DLC is not. -/
theorem test_unpack :
    regAfter .unpack rawP1 .id = 2 ∧ regAfter .unpack rawP1 (.data 1) = 0x0F ∧
      regAfter .unpack rawP1 (.data 5) = 0 ∧ regAfter .unpack rawP1 .dlc = 5 ∧
      regAfter .unpack rawP1 .crc = 0x7D04 ∧ regAfter .unpack rawP1 .sender = 1 := by decide

/-- Section 2.4: 117 bits are no frame. -/
theorem test_unpack_length : statusAfter .unpack { rawP1 with rawLen := 117 } = 0x501 := by decide

/-- Section 2.4: 0000011111. -/
theorem test_stuff :
    regAfter .stuff { rawP1 with raw := #v[0x07C00000, 0, 0, 0, 0], rawLen := 10 } (.stf 0) =
        0x07E00000 ∧
      regAfter .stuff { rawP1 with raw := #v[0x07C00000, 0, 0, 0, 0], rawLen := 10 } .stfLen =
        12 := by decide

/-- Section 2.4: 0^135. -/
theorem test_stuff_overflow :
    statusAfter .stuff { State.resetAt 5 with rawLen := 135 } = 0x601 := by decide +kernel

/-- Section 2.4: 1111110. -/
theorem test_destuff :
    regAfter .destuff { State.resetAt 5 with stf := #v[0xFC000000, 0, 0, 0, 0], stfLen := 7 }
        (.raw 0) = 0xF8000000 ∧
      regAfter .destuff { State.resetAt 5 with stf := #v[0xFC000000, 0, 0, 0, 0], stfLen := 7 }
        .rawLen = 6 := by decide

theorem test_destuff_length :
    statusAfter .destuff { State.resetAt 5 with stfLen := 161 } = 0x501 := by decide

/-- Section 2.5: ID = 0x7FF. -/
theorem test_idStuff :
    regAfter .idStuff { State.resetAt 5 with id := 0x7FF } .ids = 0x1F7D ∧
      regAfter .idStuff { State.resetAt 5 with id := 0x7FF } .idsLen = 13 := by decide

/-- Section 2.5: a string ID_STUFF never gives, and one out of range. -/
theorem test_idExtract :
    regAfter .idExtract { State.resetAt 5 with ids := 0x0FFF, idsLen := 16 } .id = 0x3FF ∧
      statusAfter .idExtract { State.resetAt 5 with ids := 0x8000, idsLen := 16 } = 0x401 := by
  decide

/-- Section 2.5: the length is checked before the range. -/
theorem test_idExtract_length :
    statusAfter .idExtract { State.resetAt 5 with ids := 0xFFFF, idsLen := 31 } = 0x301 := by decide

/-- Section 2.6, third SM row: slot 0's key ended before position 11, so it drives 1 there. -/
theorem test_arbitrate_sm :
    regAfter (.arbitrate true) (arbState [0x2AA, 0x7FF] 3) .arbWidth = 13 ∧
      regAfter (.arbitrate true) (arbState [0x2AA, 0x7FF] 3) .survMask = 1 ∧
      regAfter (.arbitrate true) (arbState [0x2AA, 0x7FF] 3) (.histBits 12) = 1 ∧
      regAfter (.arbitrate true) (arbState [0x2AA, 0x7FF] 3) (.histBits 13) = 0 := by decide

/-- Section 2.6: a tie of slots 1 and 2. -/
theorem test_arbitrate_tie :
    statusAfter (.arbitrate false) (arbState [0x102, 0x005, 0x005, 0x001] 7) = 8 ∧
      regAfter (.arbitrate false) (arbState [0x102, 0x005, 0x005, 0x001] 7) .winSlot = 1 ∧
      regAfter (.arbitrate false) (arbState [0x102, 0x005, 0x005, 0x001] 7) .loseMask = 1 ∧
      regAfter (.arbitrate false) (arbState [0x102, 0x005, 0x005, 0x001] 7) (.histBits 8) = 6 := by
  decide

/-! ### Steps -/

/-- Section 2.7: from reset, each word as the very first access. -/
theorem test_first_step :
    statusAfterStep (State.reset.withFetchWord 32 0x00000102) = 0x2 ∧
      statusAfterStep (State.reset.withFetchWord 32 0x00000004) = 0x501 ∧
      statusAfterStep (State.reset.withFetchWord 32 0x00000209) = 0x4 ∧
      statusAfterStep (State.reset.withFetchWord 32 0x0000000A) = 0x101 := by decide

/-- Section 2.1: writes keep the implemented bits; P1's offsets. -/
theorem test_register_write :
    (readReg (writeReg (State.resetAt 5) 0xFFFFFFFF .id) .id = 0x7FF) ∧
      (readReg (writeReg (State.resetAt 5) 0x000ABCDE .poly) .poly = 0xBCDE) ∧
      (readReg (writeReg (State.resetAt 5) 0xFFFF (.slotId 31)) (.slotId 31) = 0x7FF) ∧
      regAt 0x0B0 = some (.stf 4) ∧ regAt 0x17C = some (.slotId 31) ∧
      regAt 0x25C = some (.histBits 7) ∧ regAt 0x04C = none ∧ regAt 0x280 = none := by decide

/-- Section 2.1: POLY reads 0x1021 after reset; a reserved offset reads 0. -/
theorem test_register_read :
    observedAfterStep (withEvent (State.resetAt 5) (.read 0x5008 4)) = 0x1021 ∧
      observedAfterStep (withEvent (State.resetAt 5) (.read 0x504C 4)) = 0 := by decide

/-- R54, R55: the accesses of P3's `wrslots 0x00A, 0x005` at base 0. -/
theorem test_expand_wrslots :
    (HostStmt.wrslots [0x00A, 0x005]).expand 0 =
      some [.write 0x100 4 0x0000000A, .write 0x104 4 0x00000005, .write 0x038 4 0x00000003] := by
  decide

/-- E0 (R53): station 3 to stations 1 and 4. -/
theorem test_composeId : composeId 3 0b00001001 = 0x209 := by decide

/-! ### Witnesses: each statement's hypotheses are met together

A witness is named after its statement; where a statement has several clauses over one input, it
meets each at a boundary of its range. -/

theorem wit_DecodeEncodeRoundTrip :
    (Instr.arbitrate true).wellFormed = true ∧ decode 0x00000209 = .ok (.arbitrate true) := by
  decide

theorem wit_DecodeMatchesOpcodeTable :
    decode 0x00000102 = .ok (.crcCheck true) ∧ decode 0x00000009 = .ok (.arbitrate false) := by
  decide

theorem wit_StepRunsDecodedCommand :
    (withEvent frameP1 (cmdWrite frameP1 0x101)).pending =
        cmdWrite (withEvent frameP1 (cmdWrite frameP1 0x101)) 0x101 :: [] ∧
      decode 0x101 = .ok (.crcGen true) := by decide

theorem wit_IllegalWordRaisesIllegal :
    (withEvent frameP1 (cmdWrite frameP1 0x300)).pending =
        cmdWrite (withEvent frameP1 (cmdWrite frameP1 0x300)) 0x300 :: [] ∧
      legalWord 0x300 = false := by decide

theorem wit_RegisterMapIsOneToOne :
    0x27C % 4 = 0 ∧ regAt 0x27C = some (.histBits 15) ∧ Reg.offset (.histBits 15) = 0x27C := by
  decide

/-- A register, a reserved offset and CMD, at the last and the first offset of the window. -/
theorem wit_HostReadReturnsRegister :
    (0xFFC % 4 = 0 ∧ 0xFFC < 4096 ∧
      (withEvent frameP1 (.read (frameP1.base + 0xFFC) 4)).pending =
        .read ((withEvent frameP1 (.read (frameP1.base + 0xFFC) 4)).base + 0xFFC) 4 :: [] ∧
      regAt 0xFFC = none) ∧
    Reg.offset .poly = 0x008 ∧ Reg.offset .cmd = 0 := by decide

/-- CMD with a legal and an illegal word, an RW register, and an RO register beside it. -/
theorem wit_HostWriteDoesOneOfThree :
    (withEvent frameP1 (.write (frameP1.base + 0x020) 4 7)).pending =
        .write ((withEvent frameP1 (.write (frameP1.base + 0x020) 4 7)).base + 0x020) 4 7 :: [] ∧
      Reg.isRW .sender = true ∧ Reg.offset .sender = 0x020 ∧
      Reg.isRW .crcCalc = false ∧ Reg.offset .crcCalc = 0x024 ∧
      decode 0x209 = .ok (.arbitrate true) ∧ decode 0x20A = .error .opcode := by decide

/-- The last legal address, the first beyond the window, a misaligned one, a narrow access. -/
theorem wit_RefusedIffNotInInterface :
    refusedStep (withEvent frameP1 (.read 0x5FFC 4)) = false ∧
      refusedStep (withEvent frameP1 (.read 0x6000 4)) = true ∧
      refusedStep (withEvent frameP1 (.write 0x5002 4 0)) = true ∧
      refusedStep (withEvent frameP1 (.read 0x5000 1)) = true ∧
      refusedStep (withEvent frameP1 .reset) = false := by decide

theorem wit_ResetLeavesResetValues :
    (withEvent frameP1 .reset).pending = .reset :: [] := by decide

/-- A command, a write, a read, and a `wrbits` of the longest string. -/
theorem wit_HostStatementsExpand :
    (HostStmt.command .pack).expand 0x5000 = some [.write 0x5000 4 3] ∧
      (HostStmt.wr .sender 7).expand 0x5000 = some [.write 0x5020 4 7] ∧
      Reg.isRW .sender = true ∧
      (HostStmt.rd .crc).expand 0x5000 = some [.read 0x5018 4] ∧
      ((HostStmt.wrbits .raw (List.replicate 160 true)).expand 0x5000).isSome = true ∧
      ((HostStmt.wrbits .stf (List.replicate 160 true)).expand 0x5000).isSome = true ∧
      ((HostStmt.wrbits .raw (List.replicate 161 true)).expand 0x5000).isSome = false := by decide +kernel

theorem wit_DutifulHostNeverStops :
    (frameP1.setPending [.reset, .read 0x5FFC 4, .write 0x5000 4 0xFFFFFFFF]).hostKeepsDuty =
      true := by decide

theorem wit_ErrorsArePrecise :
    (∃ t, exec .pack { frameP1 with dlc := 15 } = .next t ∧ t.status.err = true) ∧
      (withEvent frameP1 (cmdWrite frameP1 0xA)).pending =
        cmdWrite (withEvent frameP1 (cmdWrite frameP1 0xA)) 0xA :: [] ∧
      ∃ t, step (withEvent frameP1 (cmdWrite frameP1 0xA)) = .next t ∧ t.status.err = true :=
  ⟨⟨_, rfl, by decide⟩, by decide, _, rfl, by decide⟩

/-- Each error and the success next to it. -/
theorem wit_ErrorCodesFollowTheirCauses :
    expectedCode .pack { frameP1 with dlc := 8 } = 0 ∧
      expectedCode .pack { frameP1 with dlc := 9 } = 2 ∧
      expectedCode .unpack { frameP1 with rawLen := 116 } = 0 ∧
      expectedCode .unpack { frameP1 with rawLen := 115 } = 5 ∧
      expectedCode .stuff { frameP1 with rawLen := 134 } = 0 ∧
      expectedCode .stuff { frameP1 with rawLen := 135 } = 6 ∧
      expectedCode .stuff { frameP1 with rawLen := 161 } = 5 ∧
      expectedCode .destuff { frameP1 with stfLen := 160 } = 0 ∧
      expectedCode .destuff { frameP1 with stfLen := 161 } = 5 ∧
      expectedCode .idExtract { frameP1 with ids := 0x0FFF, idsLen := 16 } = 0 ∧
      expectedCode .idExtract { frameP1 with ids := 0x8000, idsLen := 16 } = 4 ∧
      expectedCode .idExtract { frameP1 with idsLen := 17 } = 3 ∧
      (∃ t, exec .pack { frameP1 with dlc := 9 } = .next t) ∧
      ((withEvent frameP1 (cmdWrite frameP1 0xA)).pending =
        cmdWrite (withEvent frameP1 (cmdWrite frameP1 0xA)) 0xA :: [] ∧ legalWord 0xA = false) :=
  ⟨by decide, by decide, by decide, by decide, by decide +kernel, by decide +kernel, by decide,
    by decide, by decide, by decide, by decide, by decide, ⟨_, rfl⟩, by decide⟩

theorem wit_EveryCommandRewritesStatus :
    (withEvent frameP1 (cmdWrite frameP1 9)).pending =
      cmdWrite (withEvent frameP1 (cmdWrite frameP1 9)) 9 :: [] := by decide

theorem wit_CommandsWriteOnlyTheirRegisters :
    (∃ t, exec .unpack rawP1 = .next t) ∧ commandWrites .unpack .dlc = false :=
  ⟨⟨_, rfl⟩, by decide⟩

/-- Two states that differ outside CRC_GEN's read set, at a payload byte beyond DLC among others. -/
theorem wit_CommandsReadOnlyTheirRegisters :
    (∀ r : Reg, commandReads (.crcGen false) frameP1 r = true →
      readReg frameP1 r = readReg { frameP1 with data := frameP1.data.set 2 0, sender := 9 } r) ∧
    (∃ t, exec (.crcGen false) frameP1 = .next t ∧ t.status.err = false) := by
  refine ⟨?_, ⟨_, rfl, by decide⟩⟩
  intro r h
  cases r with
  | data k => revert h; revert k; decide
  | raw k => cases h
  | stf k => cases h
  | slotId k => cases h
  | histCont k => cases h
  | histBits k => cases h
  | _ => first | rfl | cases h

theorem wit_OnlyHostWritesOperandRegisters :
    (withEvent rawP1 (cmdWrite rawP1 4)).pending =
        cmdWrite (withEvent rawP1 (cmdWrite rawP1 4)) 4 :: [] ∧
      ∃ t, step (withEvent rawP1 (cmdWrite rawP1 4)) = .next t := ⟨by decide, ⟨_, rfl⟩⟩

theorem wit_RepeatedCommandChangesNothing : ∃ t, exec .idExtract frameP1 = .next t := ⟨_, rfl⟩

/-- Reset with one read to come meets the invariant and steps. -/
theorem wit_StepKeepsInvariant :
    (withEvent (State.resetAt 5) (.read 0x5008 4)).Inv ∧
      ∃ t, step (withEvent (State.resetAt 5) (.read 0x5008 4)) = .next t := by
  have hz : ∀ p : Nat, (Vector.replicate 16 (0 : Word))[p]?.getD 0 = 0 := fun p => by
    by_cases h : p < 16 <;> simp [h]
  refine ⟨⟨⟨by decide, by decide, by decide⟩, ?_⟩, ⟨_, rfl⟩⟩
  exact {
    widthLegal := .inl (by decide)
    survivorIffRan := by decide
    noneLeft := by decide
    disjoint := by decide
    winnerLowest := fun h => absurd (by decide) h
    opens := fun h => absurd (by decide) h
    chain := fun p h => absurd h (Nat.not_lt_zero _)
    closes := fun p h => absurd h (Nat.succ_ne_zero _)
    driven := fun p => by
      change (Vector.replicate 16 (0 : Word))[p]?.getD 0 &&&
        ~~~(Vector.replicate 16 (0 : Word))[p]?.getD 0 = 0
      rw [hz]; decide
    unused := fun p _ => ⟨hz p, hz p⟩ }

theorem wit_NopClearsStatus : (0x00000100 : Word).toNat % 256 = 0 ∧ (0x00000100 : Word) ≠ 0 := by
  decide

/-- DLC at 8: the last payload byte's last bit. -/
theorem wit_CrcMessageLayout :
    ({ frameP1 with dlc := 8 } : State).dlc.toNat ≤ 8 ∧
      (7 : Fin 8).val < ({ frameP1 with dlc := 8 } : State).dlc.toNat := by decide

theorem wit_CrcGenWritesFrameCrc :
    ({ frameP1 with dlc := 8 } : State).dlc.toNat ≤ 8 ∧
      8 < ({ frameP1 with dlc := 9 } : State).dlc.toNat := by decide

theorem wit_CrcCheckComparesCarriedCrc :
    ({ frameP1 with dlc := 8 } : State).dlc.toNat ≤ 8 ∧
      8 < ({ frameP1 with dlc := 9 } : State).dlc.toNat := by decide

theorem wit_CrcArithmeticLaws : (bits [1, 0, 1]).length = (bits [0, 1, 1]).length := by decide

/-- The frame ID = 0x0F0, DATA0 = 0x1F has CRC 0xF01F (section 2.2). -/
theorem wit_CrcOfAppendedZeroBytes :
    1 ≤ 8 ∧ 8 ≤ 8 ∧ crc16 (bitsW 11 0x0F0 ++ bitsW 8 0x1F) 0x1021 = 0xF01F := by
  decide +kernel

/-- A string that fills the buffer, and a RAW and an STF that differ only past their lengths. -/
theorem wit_BufferHoldsStringExactly :
    (List.replicate 160 true).length ≤ 160 ∧
      (∀ k : Fin 116, bufBit #v[0x0054A1E0, 0, 0x0007D040, 0x00001FFF, 0xFFFFFFFF] k.val =
        bufBit rawP1.raw k.val) ∧ rawP1.rawLen.toNat = 116 ∧
      completes .unpack rawP1 = true ∧ completes .stuff rawP1 = true ∧
      (∀ k : Fin 7, bufBit #v[0xFDFFFFFF, 1, 2, 3, 4] k.val =
        bufBit #v[0xFC000000, 0, 0, 0, 0] k.val) ∧
      completes .destuff { rawP1 with stf := #v[0xFC000000, 0, 0, 0, 0], stfLen := 7 } = true := by
  decide +kernel

theorem wit_PackLaysOutFrame :
    ({ frameP1 with dlc := 8 } : State).dlc.toNat ≤ 8 ∧
      8 < ({ frameP1 with dlc := 9 } : State).dlc.toNat := by decide

theorem wit_UnpackSlicesFields :
    rawP1.rawLen.toNat = 116 ∧ ({ rawP1 with rawLen := 115 } : State).rawLen.toNat ≠ 116 := by
  decide

theorem wit_UnpackUndoesPack :
    frameP1.dlc.toNat ≤ 8 ∧ ∃ t, exec .pack frameP1 = .next t ∧
      ({ rawP1 with raw := t.raw, rawLen := t.rawLen } : State).raw = t.raw ∧
      ({ rawP1 with raw := t.raw, rawLen := t.rawLen } : State).rawLen = t.rawLen :=
  ⟨by decide, _, rfl, rfl, rfl⟩

/-- 134 zeros fit, 135 do not, and 161 bits are too many to read. -/
theorem wit_StuffCommandStuffsRaw :
    (stuffBits (bufGet (State.resetAt 5).raw 134)).length ≤ 160 ∧
      160 < (stuffBits (bufGet (State.resetAt 5).raw 135)).length ∧
      ({ State.resetAt 5 with rawLen := 134 } : State).rawLen.toNat ≤ 134 ∧
      ({ State.resetAt 5 with rawLen := 135 } : State).rawLen.toNat ≤ 160 ∧
      160 < ({ State.resetAt 5 with rawLen := 161 } : State).rawLen.toNat := by decide +kernel

theorem wit_DestuffCommandDestuffsStf :
    ({ State.resetAt 5 with stfLen := 160 } : State).stfLen.toNat ≤ 160 ∧
      160 < ({ State.resetAt 5 with stfLen := 161 } : State).stfLen.toNat := by decide

/-- Values 0x7FF (in range) and 0x800 (out of it), lengths 16, 17 and 0. -/
theorem wit_IdExtractWritesIdentifier :
    intOf (destuffBits (bitsW 13 0x1F7D)) = 0x7FF ∧
      intOf (destuffBits (bitsW 16 0x104F)) > 0x7FF ∧
      ({ frameP1 with idsLen := 16 } : State).idsLen.toNat ≤ 16 ∧
      16 < ({ frameP1 with idsLen := 17 } : State).idsLen.toNat ∧
      ({ frameP1 with idsLen := 0 } : State).idsLen = 0 ∧
      ∃ t, exec .idStuff frameP1 = .next t ∧
        ({ rawP1 with ids := t.ids, idsLen := t.idsLen } : State).ids = t.ids ∧
        ({ rawP1 with ids := t.ids, idsLen := t.idsLen } : State).idsLen = t.idsLen :=
  ⟨by decide, by decide, by decide, by decide, by decide, _, rfl, rfl, rfl⟩

/-- Two IDS values that agree below IDS_LEN = 12 and differ above. -/
theorem wit_IdsIsRightAligned :
    ({ frameP1 with ids := 0x0045, idsLen := 12 } : State).idsLen.toNat ≤ 16 ∧
      (∀ i : Fin 12, (0xF045 : BitVec 16).getLsbD i.val = (0x0045 : BitVec 16).getLsbD i.val) ∧
      (∃ t, exec .idStuff frameP1 = .next t) ∧
      ∃ t, exec .idExtract { frameP1 with ids := 0x0045, idsLen := 12 } = .next t :=
  ⟨by decide, by decide, ⟨_, rfl⟩, ⟨_, rfl⟩⟩

/-- DLC = 8 is the boundary; whatever string a sender's STF holds, a receiver at another base holds
it, with the sender's POLY. -/
theorem wit_FrameTravelsThroughCodec :
    ({ frameP1 with dlc := 8 } : State).dlc.toNat ≤ 8 ∧
      ∀ q : State,
        ({ State.resetAt 9 with stf := q.stf, stfLen := q.stfLen } : State).stf = q.stf ∧
        ({ State.resetAt 9 with stf := q.stf, stfLen := q.stfLen } : State).stfLen = q.stfLen ∧
        ({ State.resetAt 9 with stf := q.stf, stfLen := q.stfLen } : State).poly = frameP1.poly :=
  ⟨by decide, fun _ => ⟨rfl, rfl, rfl⟩⟩

/-- No contender, and one at the highest slot. -/
theorem wit_ArbitrateReducesBitwise :
    (arbState [] 0).contMask = 0 ∧ (arbState [0x7FF] 0x80000000).contMask ≠ 0 := by decide

theorem wit_LowestIdentifiersSurvive :
    ∃ t, exec (.arbitrate true) (arbState [0x102, 0x005, 0x005, 0x001] 7) = .next t := ⟨_, rfl⟩

theorem wit_StuffedModeNamesSameWinner :
    (∃ t, exec (.arbitrate false) (arbState [0x00A, 0x005] 3) = .next t) ∧
      ∃ u, exec (.arbitrate true) (arbState [0x00A, 0x005] 3) = .next u := ⟨⟨_, rfl⟩, ⟨_, rfl⟩⟩

theorem wit_StuffingKeepsIdentifierOrder : (0x7FE : BitVec 11).toNat < (0x7FF : BitVec 11).toNat := by
  decide

theorem wit_ArbitrationWidthBounds :
    (arbState [0x7FF] 1).contMask ≠ 0 ∧
      (∃ t, exec (.arbitrate true) (arbState [0x7FF] 1) = .next t) ∧
      ∃ t, exec (.arbitrate false) (arbState [0x7FF] 1) = .next t :=
  ⟨by decide, ⟨_, rfl⟩, ⟨_, rfl⟩⟩

/-- Slot 2 is outside the mask and differs (section 2.6, "ineligible slot"). -/
theorem wit_OnlyContendersDecide :
    (arbState [0x300, 0x100, 0x7FF] 3).contMask = (arbState [0x300, 0x100, 0x000] 3).contMask ∧
      (∀ k : Fin 32, (arbState [0x300, 0x100, 0x000] 3).contMask.getLsbD k = true →
        (arbState [0x300, 0x100, 0x7FF] 3).slotId[k] =
          (arbState [0x300, 0x100, 0x000] 3).slotId[k]) ∧
      ∃ t, exec (.arbitrate true) (arbState [0x300, 0x100, 0x000] 3) = .next t :=
  ⟨by decide, by decide, ⟨_, rfl⟩⟩

theorem wit_LosersAreThoseDemoted :
    ∃ t, exec (.arbitrate false) (arbState [0x005, 0x00A] 3) = .next t := ⟨_, rfl⟩

end Sys2Proof.Tests
end

/-! ## Family 10_state: bit buffers and the identifier-only string (R19, R21) -/

namespace Sys2Proof.Machine

/-! ### Reading strings out of registers -/

/-- A read of `n` bits depends on the first `n` bits of the buffer only. -/
theorem bufGet_congr {b c : Buffer} {n : Nat} (h : ∀ k, k < n → bufBit b k = bufBit c k) :
    bufGet b n = bufGet c n :=
  List.map_congr_left fun k hk => h k (List.mem_range.1 hk)

/-- `bits_w` depends on the low `w` bits of its argument only. -/
theorem bitsW_congr {w u v : Nat} (h : ∀ i, i < w → u.testBit i = v.testBit i) :
    bitsW w u = bitsW w v :=
  List.map_congr_left fun i hi => h _ (by have := List.mem_range.1 hi; omega)

/-- A written buffer holds the string's bits, then zeros up to its capacity. -/
theorem bufBit_bufPut (x : Bits) {i : Nat} (h : i < 160) :
    bufBit (bufPut x) i = x.getD i false := by
  rw [bufBit, bufPut_getElem? _ _ (by omega), Option.getD_some, bufWord_getLsbD _ _ _ (by omega)]
  congr 1
  omega

theorem bufBit_bufPut_of_length_le {x : Bits} {i : Nat} (h : x.length ≤ i) (hi : i < 160) :
    bufBit (bufPut x) i = false := by
  rw [bufBit_bufPut x hi, List.getD_eq_default _ _ h]

/-- `buf_get` undoes `buf_put` for every string that fits. -/
theorem bufGet_bufPut {x : Bits} (h : x.length ≤ 160) : bufGet (bufPut x) x.length = x := by
  refine List.ext_getElem (bufGet_length _ _) fun i hi hx => ?_
  rw [← Option.some_inj, ← List.getElem?_eq_getElem, bufGet_getElem? _ _ _ hx,
    bufBit_bufPut x (by omega), List.getD_eq_getElem _ _ hx]

/-- The string in IDS read from the right: its `i`-th bit is IDS bit `i` (R21). -/
theorem idsString_getElem?_right (s : State) {i : Nat} (h : i < s.idsLen.toNat) :
    (idsString s)[s.idsLen.toNat - 1 - i]? = some (s.ids.getLsbD i) := by
  rw [idsString, bitsW_getElem? _ _ _ (by omega),
    show s.idsLen.toNat - 1 - (s.idsLen.toNat - 1 - i) = i by omega, BitVec.testBit_toNat]

/-! ### Commands see a buffer only through its string

Each lemma follows the outcomes of the command: the checks look at the length register and at the
string, so another register value with the same string meets the same checks. -/

theorem execStuff_with_raw {s t : State} {b : Buffer}
    (hb : rawString { s with raw := b } = rawString s) (h : execStuff s = .next t) :
    execStuff { s with raw := b } = .next { t with raw := b } := by
  obtain ⟨hlen, rfl⟩ | ⟨hlen, hover, rfl⟩ | ⟨hlen, hfit, rfl⟩ := execStuff_next h
  · exact if_pos hlen
  · rw [execStuff, hb, if_neg hlen.not_gt, if_pos hover]; rfl
  · rw [execStuff, hb, if_neg hlen.not_gt, if_neg hfit.not_gt]; rfl

theorem execUnpack_with_raw {s t : State} {b : Buffer}
    (hb : rawString { s with raw := b } = rawString s) (h : execUnpack s = .next t) :
    execUnpack { s with raw := b } = .next { t with raw := b } := by
  obtain ⟨hlen, rfl⟩ | ⟨hlen, rfl⟩ := execUnpack_next h
  · exact if_pos hlen
  · rw [execUnpack, hb, if_neg (not_not.2 hlen)]; rfl

theorem execDestuff_with_stf {s t : State} {b : Buffer}
    (hb : stfString { s with stf := b } = stfString s) (h : execDestuff s = .next t) :
    execDestuff { s with stf := b } = .next { t with stf := b } := by
  obtain ⟨hlen, rfl⟩ | ⟨hlen, rfl⟩ := execDestuff_next h
  · exact if_pos hlen
  · rw [execDestuff, hb, if_neg hlen.not_gt]; rfl

theorem execIdExtract_with_ids {s t : State} {v : BitVec 16}
    (hv : idsString { s with ids := v } = idsString s) (h : execIdExtract s = .next t) :
    execIdExtract { s with ids := v } = .next { t with ids := v } := by
  obtain ⟨hlen, rfl⟩ | ⟨hlen, hbig, rfl⟩ | ⟨hlen, hfit, rfl⟩ := execIdExtract_next h
  · exact if_pos hlen
  · rw [execIdExtract, hv, if_neg hlen.not_gt, if_pos hbig]; rfl
  · rw [execIdExtract, hv, if_neg hlen.not_gt, if_neg hfit.not_gt]; rfl

/-! ### The length of a stuffed string -/

theorem nextRun_le (run : Nat) (last b : Bool) : nextRun run last b ≤ run + 1 := by
  unfold nextRun
  split <;> omega

/-- Stuffing adds at most one bit for every five, counting the `run` bits met before (R65). -/
theorem stuffFrom_length_le (run : Nat) (last : Bool) (x : Bits) :
    (stuffFrom run last x).length ≤ x.length + (run + x.length) / 5 := by
  induction x generalizing run last with
  | nil => simp [stuffFrom]
  | cons b rest ih =>
    have hrun := nextRun_le run last b
    unfold stuffFrom
    split
    next hfull =>
      have hrest := ih 0 b
      simp only [Config.stuffRun, List.length_cons] at *
      omega
    next =>
      have hrest := ih (nextRun run last b) b
      simp only [List.length_cons]
      omega

/-- A stuffed identifier has at most 13 bits, so its length fits IDS_LEN. -/
theorem stuffBits_idString_length_le (v : BitVec 11) : (stuffBits (idString v)).length ≤ 13 := by
  have h := stuffFrom_length_le 0 false (idString v)
  rwa [idString, bitsW_length] at h

theorem idStuff_idsLen {s t : State} (h : execIdStuff s = .next t) :
    t.idsLen.toNat = (stuffBits (idString s.id)).length := by
  have hlen := stuffBits_idString_length_le s.id
  rw [execIdStuff_next h, State.setStatus_idsLen, State.setIds_idsLen, BitVec.toNat_ofNat,
    Nat.mod_eq_of_lt (by omega)]

/-- ID_STUFF writes zeros above the string (R21): the value of an `n`-bit string is below `2^n`. -/
theorem idStuff_ids_getLsbD_above {s t : State} (h : execIdStuff s = .next t) {i : Nat}
    (hi : t.idsLen.toNat ≤ i) : t.ids.getLsbD i = false := by
  rw [idStuff_idsLen h] at hi
  rw [execIdStuff_next h, State.setStatus_ids, State.setIds_ids, BitVec.getLsbD_ofNat,
    intOf_testBit, if_neg hi.not_gt, Bool.and_false]

/-! ### The statements -/

/-- Settles O36: every part goes through the string a buffer holds, which is what its length
register selects. -/
theorem bufferHoldsStringExactly : Obligations.BufferHoldsStringExactly := by
  refine ⟨fun x hx => ⟨bufGet_bufPut hx, fun i hlen hi => bufBit_bufPut_of_length_le hlen hi⟩,
    fun b i hi => ⟨rfl, bufGet_getElem? b 160 i hi⟩, ?_, ?_⟩
  · rintro s t b i (rfl | rfl) hb h
    · exact execStuff_with_raw (bufGet_congr hb) h
    · exact execUnpack_with_raw (bufGet_congr hb) h
  · intro s t b hb h
    exact execDestuff_with_stf (bufGet_congr hb) h

/-- Settles O44: IDS counts its string's bits from the right, ID_STUFF writes a value below
`2^IDS_LEN`, and ID_EXTRACT reads IDS through its string. -/
theorem idsIsRightAligned : Obligations.IdsIsRightAligned := by
  refine ⟨fun s _ => ⟨bitsW_length _ _, fun i hi => idsString_getElem?_right s hi⟩,
    fun s t h i hi => idStuff_ids_getLsbD_above h hi, ?_⟩
  intro s t v hv h
  exact execIdExtract_with_ids (bitsW_congr hv) h

end Sys2Proof.Machine

/-! ## Family 20_memory: host reads, host writes and refused accesses (R28 to R30) -/

namespace Sys2Proof.Machine

/-! ### The register map, both ways -/

/-- A bank's member is found at its own offset only, among the offsets aligned as the bank is. -/
theorem offset_of_bankIndex {first n off : Nat} {k : Fin (n + 1)} (ha : off % 4 = first % 4)
    (h : bankIndex first n off = some k) : first + 4 * k.val = off := by
  unfold bankIndex at h
  split at h
  · cases h
    rw [Fin.val_ofNat, Nat.mod_eq_of_lt (by omega)]
    omega
  · cases h

theorem regAt_offset (r : Reg) : regAt r.offset = some r := by
  cases r with
  | data k | raw k | stf k | slotId k | histCont k | histBits k => revert k; decide
  | _ => rfl

/-- Below the banks the map is a list of consecutive words. -/
theorem offset_of_regAt_word :
    ∀ i : Fin 19, ∀ r : Reg, regAt (4 * i.val) = some r → r.offset = 4 * i.val := by
  have h : ∀ i : Fin 19, (regAt (4 * i.val)).map Reg.offset = some (4 * i.val) := by decide
  intro i r hr
  simpa [hr] using h i

theorem offset_of_regAt {off : Nat} {r : Reg} (ha : off % 4 = 0) (h : regAt off = some r) :
    r.offset = off := by
  by_cases hlow : off < 0x04C
  · obtain ⟨i, rfl⟩ := Nat.dvd_of_mod_eq_zero ha
    exact offset_of_regAt_word ⟨i, by omega⟩ r h
  · rw [regAt, if_neg hlow] at h
    simp only [Option.or_eq_some_iff, Option.map_eq_some_iff] at h
    obtain ⟨k, hk, rfl⟩ | ⟨-, ⟨k, hk, rfl⟩ | ⟨-, ⟨k, hk, rfl⟩ | ⟨-, ⟨k, hk, rfl⟩ |
      ⟨-, ⟨k, hk, rfl⟩ | ⟨-, k, hk, rfl⟩⟩⟩⟩⟩ := h <;>
    exact offset_of_bankIndex (by omega) hk

theorem regAt_eq_none {off : Nat} (ha : off % 4 = 0) (h : ∀ r : Reg, r.offset ≠ off) :
    regAt off = none :=
  Option.eq_none_iff_forall_ne_some.2 fun r hr => h r (offset_of_regAt ha hr)

/-! ### Words and implemented bits -/

theorem lowMask_getLsbD (n i : Nat) :
    (lowMask n).getLsbD i = (decide (i < 32) && decide (i < n)) := by
  rw [lowMask, BitVec.getLsbD_ofNat, Nat.testBit_two_pow_sub_one]

theorem setWidth_setWidth_eq_and_lowMask (v : Word) (n : Nat) :
    (v.setWidth n).setWidth 32 = v &&& lowMask n := by
  apply BitVec.eq_of_getLsbD_eq
  intro i hi
  rw [BitVec.getLsbD_and, lowMask_getLsbD, BitVec.getLsbD_setWidth, BitVec.getLsbD_setWidth,
    ← Bool.and_assoc, Bool.and_comm]

theorem setWidth_and_not_lowMask {n : Nat} (x : BitVec n) : x.setWidth 32 &&& ~~~lowMask n = 0 := by
  apply BitVec.eq_of_getLsbD_eq
  intro i hi
  have hx : x.getLsbD i = true → i < n := BitVec.lt_of_getLsbD
  rw [BitVec.getLsbD_and, BitVec.getLsbD_not, lowMask_getLsbD, BitVec.getLsbD_setWidth]
  simpa [hi] using hx

theorem ite_eq_mul_toNat (b : Bool) (k : Nat) : (if b then k else 0) = k * b.toNat := by
  cases b <;> simp

/-- STATUS's fields do not overlap, so its word has the value R18 gives it. -/
theorem Status.toWord_toNat (st : Status) :
    st.toWord.toNat =
      (if st.err then 1 else 0) + (if st.matched then 2 else 0) + (if st.noneSet then 4 else 0)
        + (if st.tie then 8 else 0) + 256 * st.ecode.toNat := by
  have herr := st.err.toNat_le
  have hmatched := st.matched.toNat_le
  have hnone := st.noneSet.toNat_le
  have htie := st.tie.toNat_le
  have hcode := st.ecode.isLt
  simp only [ite_eq_mul_toNat, Status.toWord, BitVec.toNat_ofNat]
  omega

theorem Status.toWord_and_not_fieldMask (st : Status) :
    st.toWord &&& ~~~Reg.fieldMask .status = 0 := by
  obtain ⟨e, m, n, t, c⟩ := st
  revert e m n t c
  decide

/-- What a host read returns is the register's value. -/
theorem readReg_toNat (s : State) (r : Reg) : (readReg s r).toNat = regValue s r := by
  cases r with
  | status => exact s.status.toWord_toNat
  | cmd | contMask | survMask | loseMask => rfl
  | raw k | stf k | histCont k | histBits k => rfl
  | _ => exact BitVec.toNat_setWidth_of_le (by decide)

/-- A register without reserved bits has a FIELD_MASK of ones, which hides nothing. -/
theorem and_not_fullMask (v : Word) : v &&& ~~~0xFFFFFFFF = 0 := BitVec.and_zero

/-- A host read gives 0 outside the implemented bits (R16). -/
theorem readReg_and_not_fieldMask (s : State) (r : Reg) : readReg s r &&& ~~~r.fieldMask = 0 := by
  cases r with
  | cmd => exact BitVec.zero_and
  | status => exact s.status.toWord_and_not_fieldMask
  | contMask | survMask | loseMask => exact and_not_fullMask _
  | raw k | stf k | histCont k | histBits k => exact and_not_fullMask _
  | _ => exact setWidth_and_not_lowMask _

/-! ### Reading a register after a write -/

/-- An RW register keeps the implemented bits of the value written (R16, R29). -/
theorem readReg_writeReg_same (s : State) (v : Word) {r : Reg} (h : r.isRW = true) :
    readReg (writeReg s v r) r = v &&& r.fieldMask := by
  cases r with
  | cmd | status | crcCalc | winSlot | survMask | loseMask | arbWidth => cases h
  | histCont p | histBits p => cases h
  | contMask => exact BitVec.and_allOnes.symm
  | raw k | stf k => exact (Vector.getElem_set_self _).trans BitVec.and_allOnes.symm
  | data k | slotId k =>
    exact (congrArg _ (Vector.getElem_set_self _)).trans (setWidth_setWidth_eq_and_lowMask v _)
  | _ => exact setWidth_setWidth_eq_and_lowMask v _

/-- A write to a bank leaves the other members as they were. -/
theorem getElem_set_of_ne {α : Type} {n : Nat} (b : Vector α n) (x : α) {j k : Fin n} (h : j ≠ k) :
    (b.set k x)[j] = b[j] :=
  Vector.getElem_set_ne _ _ fun hkj => h (Fin.ext hkj.symm)

/-- A write changes no other register: two members of one bank have different indices, and registers
of different names are different fields, so there the read does not see the write at all. -/
theorem readReg_writeReg_of_ne (s : State) (v : Word) {r r' : Reg} (h : r' ≠ r) :
    readReg (writeReg s v r) r' = readReg s r' := by
  cases r with
  | data k =>
    cases r' with
    | data j =>
      exact congrArg (BitVec.setWidth 32) (getElem_set_of_ne s.data _ (h <| congrArg _ ·))
    | _ => rfl
  | raw k =>
    cases r' with
    | raw j => exact getElem_set_of_ne s.raw _ (h <| congrArg _ ·)
    | _ => rfl
  | stf k =>
    cases r' with
    | stf j => exact getElem_set_of_ne s.stf _ (h <| congrArg _ ·)
    | _ => rfl
  | slotId k =>
    cases r' with
    | slotId j =>
      exact congrArg (BitVec.setWidth 32) (getElem_set_of_ne s.slotId _ (h <| congrArg _ ·))
    | _ => rfl
  | _ => cases r' <;> trivial

/-- A write to CMD's slot or to an RO register stores nothing (R17). -/
theorem writeReg_of_not_rw (s : State) (v : Word) {r : Reg} (h : r.isRW = false) :
    writeReg s v r = s := by
  cases r with
  | cmd | status | crcCalc | winSlot | survMask | loseMask | arbWidth => rfl
  | histCont p | histBits p => rfl
  | _ => cases h

/-! ### Accesses at an offset of the window -/

theorem legalAccess_iff {base addr size : Nat} :
    legalAccess base addr size = true ↔
      size = 4 ∧ addr % 4 = 0 ∧ base ≤ addr ∧ addr < base + 4096 := by
  simp [legalAccess, and_assoc]

theorem legalAccess_base_add (s : State) {off : Nat} (ha : off % 4 = 0) (hw : off < 4096) :
    legalAccess s.base (s.base + off) 4 = true := by
  rw [legalAccess_iff, State.base, Config.windowBytes]
  omega

theorem readAt_reg (s : State) (r : Reg) : readAt s (s.base + r.offset) = readReg s r := by
  rw [readAt, Nat.add_sub_cancel_left, regAt_offset]

theorem readAt_reserved (s : State) {off : Nat} (ha : off % 4 = 0) (h : ∀ r : Reg, r.offset ≠ off) :
    readAt s (s.base + off) = 0 := by
  rw [readAt, Nat.add_sub_cancel_left, regAt_eq_none ha h]

theorem writeAt_reg (s : State) (v : Word) (r : Reg) :
    writeAt s (s.base + r.offset) v = writeReg s v r := by
  rw [writeAt, Nat.add_sub_cancel_left, regAt_offset]

/-- Outside the RW registers a write stores nothing (R29). -/
theorem writeAt_of_no_rw (s : State) (v : Word) {off : Nat} (ha : off % 4 = 0)
    (h : ∀ r : Reg, r.isRW = true → r.offset ≠ off) : writeAt s (s.base + off) v = s := by
  by_cases hreg : ∃ r : Reg, r.offset = off
  · obtain ⟨r, rfl⟩ := hreg
    rw [writeAt_reg]
    exact writeReg_of_not_rw s v (Bool.eq_false_iff.2 fun hr => h r hr rfl)
  · rw [writeAt, Nat.add_sub_cancel_left, regAt_eq_none ha (not_exists.1 hreg)]

theorem offset_ne_zero_of_rw {r : Reg} (h : r.isRW = true) : r.offset ≠ 0 := by
  intro h0
  have hcmd : some r = some .cmd := (regAt_offset r).symm.trans (congrArg regAt h0)
  cases hcmd
  cases h

/-! ### Steps at an offset of the window -/

section
variable {s : State} {off : Nat} {v : Word} {rest : List HostEvent}

theorem step_read_window (ha : off % 4 = 0) (hw : off < 4096)
    (h : s.pending = .read (s.base + off) 4 :: rest) :
    step s = .next ((s.setPending rest).observe (readAt s (s.base + off))) := by
  rw [step_read h]
  exact hostRead_legal (legalAccess_base_add (s.setPending rest) ha hw)

theorem step_write_cmd (h : s.pending = .write (s.base + 0) 4 v :: rest) :
    step s = hostCommand exec (s.setPending rest) v := by
  rw [step_write h]
  exact (hostWrite_legal (legalAccess_base_add (s.setPending rest) rfl (by decide))).trans
    (if_pos rfl)

theorem step_write_other (ha : off % 4 = 0) (hw : off < 4096) (h0 : off ≠ 0)
    (h : s.pending = .write (s.base + off) 4 v :: rest) :
    step s = .next (writeAt (s.setPending rest) (s.base + off) v) := by
  rw [step_write h]
  refine (hostWrite_legal (legalAccess_base_add (s.setPending rest) ha hw)).trans (if_neg ?_)
  exact fun hcmd => h0 (Nat.add_left_cancel hcmd)

end

/-! ### Commands are never refused -/

/-- Every arm of `exec`, after none, one or two checks, ends in success, in a command error or, for
ARBITRATE, in its fault. -/
theorem exec_ne_refused (i : Instr) (s : State) (r : Refusal) : exec i s ≠ .refused r := by
  cases i with
  | nop | idStuff => nofun
  | crcGen fe | crcCheck fe | pack | unpack | destuff =>
    simp only [exec, execCrcGen, execCrcCheck, execPack, execUnpack, execDestuff]
    split <;> nofun
  | stuff | idExtract | arbitrate sm =>
    simp only [exec, execStuff, execIdExtract, execArbitrate]
    split
    · nofun
    · split <;> nofun

theorem hostCommand_exec_ne_refused (s : State) (w : Word) (r : Refusal) :
    hostCommand exec s w ≠ .refused r := by
  cases hw : decode w with
  | ok i => rw [hostCommand_ok hw]; exact exec_ne_refused i s r
  | error e => rw [hostCommand_error hw]; nofun

theorem accessRefusal_some {s : State} {addr size : Nat} :
    (∃ r, accessRefusal s addr size = some r) ↔ ¬legalAccess s.base addr size = true := by
  rw [← accessRefusal_none, ← Option.ne_none_iff_exists']

theorem hostRead_refused {s : State} {addr size : Nat} :
    (∃ r, hostRead s addr size = .refused r) ↔ ¬legalAccess s.base addr size = true := by
  rw [← accessRefusal_some, hostRead]
  cases accessRefusal s addr size <;> simp

theorem hostWrite_refused {s : State} {addr size : Nat} {v : Word} :
    (∃ r, hostWrite exec s addr size v = .refused r) ↔ ¬legalAccess s.base addr size = true := by
  refine ⟨?_, fun h => ?_⟩
  · rintro ⟨r, h⟩ hl
    rw [hostWrite_legal hl] at h
    split at h
    · exact hostCommand_exec_ne_refused s v r h
    · cases h
  · obtain ⟨r, hr⟩ := accessRefusal_some.2 h
    exact ⟨r, by rw [hostWrite, hr]⟩

/-! ### The statements -/

/-- Settles O8: the value observed is the register's own read value, which has no bit outside
FIELD_MASK; where the map has no register, and at CMD, it is 0. -/
theorem hostReadReturnsRegister : Obligations.HostReadReturnsRegister := by
  intro s off rest ha hw hp
  refine ⟨readAt s (s.base + off), step_read_window ha hw hp, ?_, readAt_reserved s ha, ?_⟩
  · rintro r rfl
    rw [readAt_reg]
    exact ⟨readReg_toNat s r, readReg_and_not_fieldMask s r⟩
  · rintro rfl
    exact readAt_reg s .cmd

/-- Settles O9: CMD decodes the value; elsewhere the register map finds the one register at the
offset, and `writeReg` changes that register if it is RW and nothing otherwise. -/
theorem hostWriteDoesOneOfThree : Obligations.HostWriteDoesOneOfThree := by
  intro s off v rest ha hw hp
  refine ⟨?_, ?_, fun h0 hno => ?_⟩
  · rintro rfl
    rw [step_write_cmd hp]
    refine ⟨fun i hi => hostCommand_ok hi, fun hno => ?_⟩
    cases hd : decode v with
    | ok i => exact absurd hd (hno i)
    | error e => exact hostCommand_error hd
  · rintro r hrw rfl
    refine ⟨writeReg (s.setPending rest) v r, ?_, readReg_writeReg_same _ v hrw,
      fun r' hne => readReg_writeReg_of_ne _ v hne, ?_⟩
    · rw [step_write_other ha hw (offset_ne_zero_of_rw hrw) hp]
      exact congrArg _ (writeAt_reg (s.setPending rest) v r)
    · obtain ⟨hpend, hobs, hpage⟩ := writeReg_keeps_host (s.setPending rest) v r
      exact ⟨hpage, hpend, hobs⟩
  · rw [step_write_other ha hw h0 hp]
    exact congrArg _ (writeAt_of_no_rw (s.setPending rest) v ha hno)

/-- Settles O10: an access is refused by `accessRefusal` alone, since no command is, and reset is no
access. -/
theorem refusedIffNotInInterface : Obligations.RefusedIffNotInInterface := by
  intro s e rest hp
  simp only [← legalAccess_iff]
  cases e with
  | reset =>
    rw [step_reset hp]
    exact ⟨nofun, nofun⟩
  | read addr size =>
    rw [step_read hp, hostRead_refused]
    simp
  | write addr size v =>
    rw [step_write hp, hostWrite_refused]
    simp

end Sys2Proof.Machine

/-! ## Family 30_encoding: the opcode table and the CRC message (R45 to R50) -/

namespace Sys2Proof

/-! ### What the decoder accepts -/

/-- Outside the fields OP, FE and SM a word has only the reserved bits (R45). -/
theorem eq_cmdWord_of_reservedField {w : Word} (h : reservedField w = 0) :
    w = cmdWord (opField w) (feField w) (smField w) := by
  have hres : w.toNat / 1024 % 2 ^ 22 = 0 := by
    simpa [reservedField, Nat.shiftRight_eq_div_pow] using congrArg BitVec.toNat h
  have hop : opField w = w.toNat % 256 := by simp [opField]
  have hfe : (feField w).toNat = w.toNat / 256 % 2 := by
    rw [feField, ← BitVec.testBit_toNat, Nat.toNat_testBit]
  have hsm : (smField w).toNat = w.toNat / 512 % 2 := by
    rw [smField, ← BitVec.testBit_toNat, Nat.toNat_testBit]
  apply BitVec.eq_of_toNat_eq
  rw [cmdWord, BitVec.toNat_ofNat, hop, hfe, hsm]
  have := w.isLt
  omega

/-- The encoder inverts the opcode map on fields without a misplaced modifier (R46). -/
theorem encode_of_instrOf {op : Nat} {fe sm : Bool} {i : Instr} (h : instrOf op fe sm = some i)
    (hfe : fe = true → takesFe op = true) (hsm : sm = true → takesSm op = true) :
    encode i = cmdWord op fe sm := by
  have no_fe : takesFe op = false → fe = false := fun ht => by simpa [ht] using hfe
  have no_sm : takesSm op = false → sm = false := fun ht => by simpa [ht] using hsm
  unfold instrOf at h
  split at h
  case h_11 => cases h
  case h_2 | h_3 => cases h; rw [no_sm rfl]; rfl
  case h_10 => cases h; rw [no_fe rfl]; rfl
  all_goals cases h; rw [no_fe rfl, no_sm rfl]; rfl

/-- A decoded word passed every check of R48. -/
theorem decode_ok {w : Word} {i : Instr} (h : decode w = .ok i) :
    instrOf (opField w) (feField w) (smField w) = some i ∧ reservedField w = 0 ∧
      (feField w = true → takesFe (opField w) = true) ∧
      (smField w = true → takesSm (opField w) = true) := by
  unfold decode at h
  split at h
  · cases h
  next j hj =>
    split_ifs at h with hres hfe hsm
    cases h
    exact ⟨hj, not_not.1 hres, by simpa using hfe, by simpa using hsm⟩

theorem decode_encode (i : Instr) : decode (encode i) = .ok i := by
  cases i with
  | crcGen b | crcCheck b | arbitrate b => cases b <;> rfl
  | _ => rfl

/-- Each command has exactly one word (R46). -/
theorem decode_eq_ok_iff {w : Word} {i : Instr} : decode w = .ok i ↔ w = encode i := by
  constructor
  · intro h
    obtain ⟨hi, hres, hfe, hsm⟩ := decode_ok h
    rw [encode_of_instrOf hi hfe hsm]
    exact eq_cmdWord_of_reservedField hres
  · rintro rfl
    exact decode_encode i

/-! ### Match and mask -/

/-- A mask of ones leaves one word. -/
theorem decode_eq_ok_iff_and_fullMask {w : Word} {i : Instr} :
    decode w = .ok i ↔ w &&& 0xFFFFFFFF = encode i := by
  rw [decode_eq_ok_iff, show w &&& 0xFFFFFFFF = w from BitVec.and_allOnes]

/-- A word is its bits outside a mask and its bits inside it. -/
theorem and_not_or_and (w t : Word) : w &&& ~~~t ||| w &&& t = w := by
  rw [← BitVec.and_or_distrib_left, BitVec.or_comm, BitVec.or_not_self, BitVec.and_allOnes]

/-- A mask that hides bit `k` alone leaves the two words that differ there. -/
theorem and_not_twoPow_eq_iff {w m : Word} {k : Nat} (hm : m.getLsbD k = false) :
    w &&& ~~~BitVec.twoPow 32 k = m ↔ w = m ∨ w = m ||| BitVec.twoPow 32 k := by
  have split_at_k := and_not_or_and (t := BitVec.twoPow 32 k)
  constructor
  · rintro rfl
    have hw := split_at_k w
    rw [BitVec.and_twoPow] at hw
    split at hw
    · exact .inr hw.symm
    · exact .inl (by simpa using hw.symm)
  · have hclear : m &&& ~~~BitVec.twoPow 32 k = m := by
      simpa [BitVec.and_twoPow, hm] using split_at_k m
    rintro (rfl | rfl)
    · exact hclear
    · rw [BitVec.and_or_distrib_right, hclear, BitVec.and_not_self]
      exact BitVec.or_zero

/-- A command with a modifier at bit `k` has two words, and hiding that bit leaves the one without
the modifier. -/
theorem exists_decode_eq_ok_iff_and_not_twoPow {w : Word} {k : Nat} {f : Bool → Instr}
    (hclear : (encode (f false)).getLsbD k = false)
    (hset : encode (f true) = encode (f false) ||| BitVec.twoPow 32 k) :
    (∃ b, decode w = .ok (f b)) ↔ w &&& ~~~BitVec.twoPow 32 k = encode (f false) := by
  rw [and_not_twoPow_eq_iff hclear, ← hset, ← decode_eq_ok_iff, ← decode_eq_ok_iff,
    Bool.exists_bool]

/-! ### The modifiers -/

theorem fe_of_decode_crc {w : Word} {fe : Bool}
    (h : decode w = .ok (.crcGen fe) ∨ decode w = .ok (.crcCheck fe)) : fe = w.getLsbD 8 := by
  rw [decode_eq_ok_iff, decode_eq_ok_iff] at h
  obtain rfl | rfl := h <;> cases fe <;> rfl

theorem sm_of_decode_arbitrate {w : Word} {sm : Bool} (h : decode w = .ok (.arbitrate sm)) :
    sm = w.getLsbD 9 := by
  rw [decode_eq_ok_iff] at h
  subst h
  cases sm <;> rfl

/-! ### The opcode table -/

/-- Settles O4: a row without a modifier has a mask of ones and its command one word; a row with a
modifier hides that bit and its command has the two words that differ there. -/
theorem decodeMatchesOpcodeTable : Obligations.DecodeMatchesOpcodeTable := by
  intro w
  exact ⟨decode_eq_ok_iff_and_fullMask,
    exists_decode_eq_ok_iff_and_not_twoPow (k := 8) (f := .crcGen) rfl rfl,
    exists_decode_eq_ok_iff_and_not_twoPow (k := 8) (f := .crcCheck) rfl rfl,
    decode_eq_ok_iff_and_fullMask, decode_eq_ok_iff_and_fullMask, decode_eq_ok_iff_and_fullMask,
    decode_eq_ok_iff_and_fullMask, decode_eq_ok_iff_and_fullMask, decode_eq_ok_iff_and_fullMask,
    exists_decode_eq_ok_iff_and_not_twoPow (k := 9) (f := .arbitrate) rfl rfl,
    fun _ => fe_of_decode_crc, fun _ => sm_of_decode_arbitrate, rfl, rfl, rfl⟩

end Sys2Proof

namespace Sys2Proof.Machine

/-! ### Strings of equal pieces -/

theorem length_flatMap_range {f : Nat → Bits} {c : Nat} (hf : ∀ k, (f k).length = c) (n : Nat) :
    ((List.range n).flatMap f).length = c * n := by
  simp [List.length_flatMap, hf, Nat.mul_comm]

/-- Bit `j` of piece `k` of a string made of pieces of `c` bits. -/
theorem getElem?_flatMap_range {f : Nat → Bits} {c : Nat} (hf : ∀ k, (f k).length = c)
    {n k j : Nat} (hk : k < n) (hj : j < c) :
    ((List.range n).flatMap f)[c * k + j]? = (f k)[j]? := by
  induction n with
  | zero => omega
  | succ n ih =>
    have hlen := length_flatMap_range hf n
    rw [List.range_succ, List.flatMap_append, List.flatMap_singleton]
    obtain hlt | rfl := Nat.lt_succ_iff_lt_or_eq.1 hk
    · have hpiece : c * (k + 1) ≤ c * n := Nat.mul_le_mul_left c hlt
      rw [Nat.mul_succ] at hpiece
      rw [List.getElem?_append_left (by omega), ih hlt]
    · rw [List.getElem?_append_right (by omega), hlen, Nat.add_sub_cancel_left]

/-! ### The CRC message -/

theorem dataByte_eq_getElem (s : State) (k : Fin 8) : s.dataByte k.val = s.data[k] := by
  simp [State.dataByte]

theorem bitsW_toNat_getElem? {w : Nat} (v : BitVec w) {i : Nat} (h : i < w) :
    (bitsW w v.toNat)[i]? = some (v.getLsbD (w - 1 - i)) := by
  rw [bitsW_getElem? _ _ _ h, BitVec.testBit_toNat]

/-! ### The statements -/

/-- Settles O25: the message is one piece of 11 bits and then DLC pieces of 8 bits, each the bits of
its register. -/
theorem crcMessageLayout : Obligations.CrcMessageLayout := by
  intro s _
  have hbyte : ∀ k, (bitsW 8 (s.dataByte k).toNat).length = 8 := fun k => bitsW_length _ _
  refine ⟨?_, fun i hi => ?_, fun k j hk hj => ?_⟩
  · rw [crcMsg, List.length_append, bitsW_length, length_flatMap_range hbyte]
  · rw [crcMsg, List.getElem?_append_left (by rwa [bitsW_length]), bitsW_toNat_getElem? _ hi]
  · rw [crcMsg, Nat.add_assoc, List.getElem?_append_right (by rw [bitsW_length]; omega),
      bitsW_length, Nat.add_sub_cancel_left, getElem?_flatMap_range hbyte hk hj,
      bitsW_toNat_getElem? _ hj, dataByte_eq_getElem]

end Sys2Proof.Machine

/-! ## Family 40_crc: long division, the register form, and the two CRC commands (R56 to R61) -/

namespace Sys2Proof.Machine

/-! ### Bits of the strings in the division -/

theorem bitsW_succ (w v : Nat) : bitsW (w + 1) v = v.testBit w :: bitsW w v := by
  simp [bitsW, List.range_succ_eq_map, Function.comp_def, Nat.sub_sub, Nat.add_comm 1]

/-- The bits of a register as a string, with zeros past its end. -/
theorem bitsW_toNat_getD {w : Nat} (v : BitVec w) (i : Nat) :
    (bitsW w v.toNat).getD i false = v.getMsbD i := by
  rw [List.getD_eq_getElem?_getD]
  by_cases h : i < w
  · rw [bitsW_toNat_getElem? v h]
    simp [BitVec.getMsbD, h]
  · simp [BitVec.getMsbD, h]

/-- `G` is x^16 and then the coefficients in POLY (R15). -/
theorem generator_eq_cons (poly : BitVec 16) :
    generator poly = true :: bitsW 16 poly.toNat := by
  have hbit (i : Nat) :
      (0x10000 ||| poly.toNat).testBit i = (decide (16 = i) || poly.toNat.testBit i) := by
    rw [Nat.testBit_or, show 0x10000 = 2 ^ 16 from rfl, Nat.testBit_two_pow]
  rw [generator, bitsW_succ, hbit]
  refine congrArg (true :: ·) (bitsW_congr fun i hi => ?_)
  rw [hbit, decide_eq_false (by omega), Bool.false_or]

/-- XOR at the head of a string keeps its length and treats the shorter operand as ending in
zeros. -/
theorem xorHead_getElem? (a g : Bits) (i : Nat) :
    (xorHead a g)[i]? = a[i]?.map (· ^^ g.getD i false) := by
  induction a generalizing g i with
  | nil => cases g <;> rfl
  | cons x a ih =>
    cases g with
    | nil => cases i <;> simp [xorHead]
    | cons y g =>
      cases i with
      | zero => rfl
      | succ i => simpa [xorHead] using ih g i

/-! ### The register form of the division

While the division visits the positions of `m`, its work string is the part of `m ++ 0^16` still to
visit, XORed at its head with the register (R57). -/

/-- The work string of the division with `m` still to visit and `r` in the register. -/
def divWork (m : Bits) (r : BitVec 16) : Bits :=
  xorHead (m ++ List.replicate 16 false) (bitsW 16 r.toNat)

theorem divWork_getElem? (m : Bits) (r : BitVec 16) (i : Nat) :
    (divWork m r)[i]? = (m ++ List.replicate 16 false)[i]?.map (· ^^ r.getMsbD i) := by
  rw [divWork, xorHead_getElem?, bitsW_toNat_getD]

/-- The division begins with the register at 0. -/
theorem divWork_zero (m : Bits) : divWork m 0 = m ++ List.replicate 16 false := by
  apply List.ext_getElem?
  intro i
  simp [divWork_getElem?]

/-- With no position left to visit, the work string is the register. -/
theorem divWork_nil (r : BitVec 16) : divWork [] r = bitsW 16 r.toNat := by
  apply List.ext_getElem?
  intro i
  rw [divWork_getElem?, List.nil_append, List.getElem?_replicate]
  by_cases h : i < 16
  · rw [bitsW_toNat_getElem? r h]
    simp [BitVec.getMsbD, h]
  · simp [h]

/-- The leading bit, which decides whether the division subtracts, is the register's feedback. -/
theorem divWork_cons_headD (b : Bool) (m : Bits) (r : BitVec 16) :
    (divWork (b :: m) r).headD false = (r.getLsbD 15 ^^ b) := by
  rw [List.headD_eq_head?_getD, List.head?_eq_getElem?, divWork_getElem?]
  simp [BitVec.getMsbD, Bool.xor_comm]

/-- A step that does not subtract shifts the register. -/
theorem divWork_cons_tail (b : Bool) (m : Bits) (r : BitVec 16) :
    (divWork (b :: m) r).tail = divWork m (r <<< 1) := by
  apply List.ext_getElem?
  intro i
  rw [List.getElem?_tail, divWork_getElem?, divWork_getElem?, List.cons_append,
    List.getElem?_cons_succ, BitVec.getMsbD_shiftLeft]

/-- Subtracting `G` adds POLY to the register: the bits of `G` after its first are POLY's. -/
theorem xorHead_divWork_generator_tail (b : Bool) (m : Bits) (r poly : BitVec 16) :
    (xorHead (divWork (b :: m) r) (generator poly)).tail = divWork m (r <<< 1 ^^^ poly) := by
  apply List.ext_getElem?
  intro i
  rw [List.getElem?_tail, xorHead_getElem?, ← List.getElem?_tail, divWork_cons_tail,
    divWork_getElem?, divWork_getElem?, Option.map_map, generator_eq_cons, List.getD_cons_succ,
    bitsW_toNat_getD, BitVec.getMsbD_xor]
  simp [Function.comp_def]

/-- Visiting one position of the division is one step of the register. -/
theorem divSteps_divWork_cons (poly : BitVec 16) (n : Nat) (b : Bool) (m : Bits) (r : BitVec 16) :
    divSteps (generator poly) (n + 1) (divWork (b :: m) r) =
      divSteps (generator poly) n (divWork m (crcRegisterStep poly r b)) := by
  rw [divSteps, divWork_cons_headD, xorHead_divWork_generator_tail, divWork_cons_tail,
    crcRegisterStep, apply_ite (divWork m)]

/-- From any register value, the rest of the division is the rest of the register's run. -/
theorem divSteps_divWork (poly : BitVec 16) (m : Bits) (r : BitVec 16) :
    divSteps (generator poly) m.length (divWork m r) =
      bitsW 16 (m.foldl (crcRegisterStep poly) r).toNat := by
  induction m generalizing r with
  | nil => exact divWork_nil r
  | cons b m ih => rw [List.length_cons, divSteps_divWork_cons, ih, List.foldl_cons]

theorem crc16_eq_crcRegister (m : Bits) (poly : BitVec 16) : crc16 m poly = crcRegister m poly := by
  rw [crc16, ← divWork_zero, divSteps_divWork, intOf_bitsW, ← crcRegister,
    Nat.mod_eq_of_lt (BitVec.isLt _), BitVec.ofNat_toNat, BitVec.setWidth_eq]

/-! ### CRC_GEN and CRC_CHECK -/

section
variable {s : State}

theorem execCrcGen_of_dlc_le (fe : Bool) (h : s.dlc.toNat ≤ 8) :
    execCrcGen fe s =
      .next (((s.setCrc (crcValue fe s)).setCrcCalc (crcValue fe s)).setStatus .clear) :=
  if_neg h.not_gt

theorem execCrcGen_of_lt_dlc (fe : Bool) (h : 8 < s.dlc.toNat) :
    execCrcGen fe s = .next (s.setStatus (.ofError .payload)) :=
  if_pos h

theorem execCrcCheck_of_dlc_le (fe : Bool) (h : s.dlc.toNat ≤ 8) :
    execCrcCheck fe s =
      .next ((s.setCrcCalc (crcValue fe s)).setStatus (.ofMatch (crcValue fe s == s.crc))) :=
  if_neg h.not_gt

theorem execCrcCheck_of_lt_dlc (fe : Bool) (h : 8 < s.dlc.toNat) :
    execCrcCheck fe s = .next (s.setStatus (.ofError .payload)) :=
  if_pos h

end

theorem crcValue_of_fe {fe : Bool} (s : State) (h : fe = true) : crcValue fe s = 0 := if_pos h

theorem crcValue_of_not_fe {fe : Bool} (s : State) (h : fe = false) :
    crcValue fe s = crc16 (crcMsg s) s.poly := by
  subst h
  rfl

/-! ### The statements -/

/-- Settles O29: the division's work string holds the register at its head, so each position visited
is one register step; the ASCII example is the division itself, run by the kernel. -/
theorem crcRegisterFormEqualsDivision : Obligations.CrcRegisterFormEqualsDivision :=
  ⟨crc16_eq_crcRegister, by decide +kernel⟩

/-- Settles O26: the value written is `crcValue`; the payload check comes before FE. -/
theorem crcGenWritesFrameCrc : Obligations.CrcGenWritesFrameCrc := fun fe s =>
  ⟨fun h => ⟨crcValue fe s, crcValue_of_fe s, crcValue_of_not_fe s, execCrcGen_of_dlc_le fe h⟩,
    execCrcGen_of_lt_dlc fe⟩

/-- Settles O27: the value written is `crcValue`, and MATCH is its comparison with the carried
CRC. -/
theorem crcCheckComparesCarriedCrc : Obligations.CrcCheckComparesCarriedCrc := fun fe s =>
  ⟨fun h => ⟨crcValue fe s, crcValue_of_fe s, crcValue_of_not_fe s, crcValue fe s == s.crc,
      beq_iff_eq, execCrcCheck_of_dlc_le fe h⟩,
    execCrcCheck_of_lt_dlc fe⟩

end Sys2Proof.Machine

/-! ## Family 41_framer: stuffing, and the six framer commands (R62 to R71) -/

namespace Sys2Proof.Machine

/-! ### The two loops, bit by bit -/

section
variable {run : Nat} {last b : Bool} (rest : Bits)

theorem stuffFrom_cons_of_full (h : nextRun run last b = Config.stuffRun) :
    stuffFrom run last (b :: rest) = b :: (!b) :: stuffFrom 0 b rest :=
  if_pos h

theorem stuffFrom_cons_of_not_full (h : nextRun run last b ≠ Config.stuffRun) :
    stuffFrom run last (b :: rest) = b :: stuffFrom (nextRun run last b) b rest :=
  if_neg h

/-- The bit after a full run is dropped without a look at its value (R63). -/
theorem destuffFrom_cons_of_drop :
    destuffFrom run last true (b :: rest) = destuffFrom run last false rest :=
  rfl

theorem destuffFrom_cons_of_full (h : nextRun run last b = Config.stuffRun) :
    destuffFrom run last false (b :: rest) = b :: destuffFrom 0 b true rest :=
  if_pos h

theorem destuffFrom_cons_of_not_full (h : nextRun run last b ≠ Config.stuffRun) :
    destuffFrom run last false (b :: rest) = b :: destuffFrom (nextRun run last b) b false rest :=
  if_neg h

end

/-- Both loops count the same runs, so from equal counters destuffing drops exactly the bits that
stuffing put in (R64). -/
theorem destuffFrom_stuffFrom (run : Nat) (last : Bool) (x : Bits) :
    destuffFrom run last false (stuffFrom run last x) = x := by
  induction x generalizing run last with
  | nil => rfl
  | cons b rest ih =>
    by_cases h : nextRun run last b = Config.stuffRun
    · rw [stuffFrom_cons_of_full _ h, destuffFrom_cons_of_full _ h, destuffFrom_cons_of_drop, ih]
    · rw [stuffFrom_cons_of_not_full _ h, destuffFrom_cons_of_not_full _ h, ih]

theorem destuffBits_stuffBits (x : Bits) : destuffBits (stuffBits x) = x :=
  destuffFrom_stuffFrom 0 false x

/-! ### Lengths -/

/-- Destuffing never lengthens, whatever state its loop is in (R65). -/
theorem destuffFrom_length_le (run : Nat) (last drop : Bool) (y : Bits) :
    (destuffFrom run last drop y).length ≤ y.length := by
  induction y generalizing run last drop with
  | nil => exact Nat.le_refl 0
  | cons b rest ih =>
    cases drop with
    | true => exact Nat.le_succ_of_le (ih run last false)
    | false =>
      by_cases h : nextRun run last b = Config.stuffRun
      · rw [destuffFrom_cons_of_full _ h]
        exact Nat.succ_le_succ (ih 0 b true)
      · rw [destuffFrom_cons_of_not_full _ h]
        exact Nat.succ_le_succ (ih (nextRun run last b) b false)

theorem destuffBits_length_le (y : Bits) : (destuffBits y).length ≤ y.length :=
  destuffFrom_length_le 0 false false y

/-- Stuffing never shortens: destuffing, which never lengthens, gives the string back. -/
theorem length_le_stuffBits_length (x : Bits) : x.length ≤ (stuffBits x).length := by
  have h := destuffBits_length_le (stuffBits x)
  rwa [destuffBits_stuffBits] at h

theorem stuffBits_length_le (x : Bits) : (stuffBits x).length ≤ x.length + x.length / 5 := by
  have h := stuffFrom_length_le 0 false x
  rwa [Nat.zero_add] at h

/-- A bit that goes on the run of `last`, or meets no run at all, lengthens the run. -/
theorem nextRun_of_continues {run : Nat} {last b : Bool} (h : run = 0 ∨ last = b) :
    nextRun run last b = run + 1 := by
  obtain rfl | rfl := h
  · rfl
  · cases run <;> simp [nextRun]

/-- A constant string reaches the bound of R65: every fifth bit of the run gets a stuff bit. -/
theorem stuffFrom_replicate_length (n : Nat) {run : Nat} {last b : Bool} (hrun : run < 5)
    (h : run = 0 ∨ last = b) :
    (stuffFrom run last (List.replicate n b)).length = n + (run + n) / 5 := by
  induction n generalizing run last with
  | zero => simp [stuffFrom, Nat.div_eq_of_lt hrun]
  | succ n ih =>
    have hnext := nextRun_of_continues h
    rw [List.replicate_succ]
    by_cases hfull : run + 1 = 5
    · rw [stuffFrom_cons_of_full _ (hnext.trans hfull), List.length_cons, List.length_cons,
        ih (by omega) (.inr rfl)]
      omega
    · rw [stuffFrom_cons_of_not_full _ (hnext.trans_ne hfull), List.length_cons, hnext,
        ih (by omega) (.inr rfl)]
      omega

theorem stuffBits_replicate_length (n : Nat) (b : Bool) :
    (stuffBits (List.replicate n b)).length = n + n / 5 := by
  rw [stuffBits, stuffFrom_replicate_length n (by decide) (.inl rfl), Nat.zero_add]

/-- Settles O32: the loops of R62 and R63 keep equal counters; the examples are runs of them. -/
theorem destuffUndoesStuff : Obligations.DestuffUndoesStuff :=
  ⟨destuffBits_stuffBits, by decide, by decide, by decide⟩

/-! ### Slices of a serialised frame -/

/-- The field between what stands before it and what stands after it. -/
theorem slice_append_append {p f q : Bits} {i n : Nat} (hp : p.length = i) (hf : f.length = n) :
    slice (p ++ f ++ q) i n = f := by
  rw [slice, List.append_assoc, ← hp, List.drop_left, ← hf, List.take_left]

/-- Piece `k` of a string made of pieces of `c` bits, which may stand inside a longer one. -/
theorem slice_append_flatMap_range_append {f : Nat → Bits} {c : Nat} (hf : ∀ k, (f k).length = c)
    {p q : Bits} {i n k : Nat} (hp : p.length = i) (hk : k < n) :
    slice (p ++ (List.range n).flatMap f ++ q) (i + c * k) c = f k := by
  apply List.ext_getElem?
  intro j
  by_cases hj : j < c
  · have hpiece : c * (k + 1) ≤ c * n := Nat.mul_le_mul_left c hk
    rw [Nat.mul_succ] at hpiece
    rw [slice_getElem? _ _ _ _ hj, List.append_assoc, Nat.add_assoc,
      List.getElem?_append_right (by omega), hp, Nat.add_sub_cancel_left,
      List.getElem?_append_left (by rw [length_flatMap_range hf]; omega),
      getElem?_flatMap_range hf hk hj]
  · have hend := not_lt.1 hj
    rw [slice, List.getElem?_eq_none ((List.length_take_le _ _).trans hend),
      List.getElem?_eq_none ((hf k).trans_le hend)]

@[simp] theorem payloadSlot_length (s : State) (k : Nat) : (payloadSlot s k).length = 8 := by
  unfold payloadSlot
  split <;> simp

/-- A payload slot spells its DATA register below DLC and the byte 0 from DLC on (R51). -/
theorem payloadSlot_eq_bitsW (s : State) (k : Fin 8) :
    payloadSlot s k.val = bitsW 8 (if k.val < s.dlc.toNat then s.data[k] else 0).toNat := by
  unfold payloadSlot
  split
  · rw [dataByte_eq_getElem]
  · rfl

@[simp] theorem payload_length (s : State) :
    ((List.range 8).flatMap (payloadSlot s)).length = 64 :=
  length_flatMap_range (payloadSlot_length s) 8

@[simp] theorem frameString_length (s : State) : (frameString s).length = 116 := by
  simp [frameString]

section
variable (s : State)

theorem frameString_slice_id : slice (frameString s) 0 11 = bitsW 11 s.id.toNat := by
  simp only [frameString, List.append_assoc]
  exact slice_append_append (p := []) (f := bitsW 11 s.id.toNat) rfl (bitsW_length _ _)

theorem frameString_slice_payload (k : Fin 8) :
    slice (frameString s) (11 + 8 * k.val) 8 =
      bitsW 8 (if k.val < s.dlc.toNat then s.data[k] else 0).toNat := by
  rw [← payloadSlot_eq_bitsW]
  simp only [frameString, List.append_assoc]
  rw [← List.append_assoc]
  exact slice_append_flatMap_range_append (payloadSlot_length s) (bitsW_length _ _) k.isLt

theorem frameString_slice_ack : slice (frameString s) 75 1 = bitsW 1 s.ack.toNat := by
  rw [frameString, List.append_assoc, List.append_assoc]
  exact slice_append_append (by simp) (bitsW_length _ _)

theorem frameString_slice_crc : slice (frameString s) 76 16 = bitsW 16 s.crc.toNat := by
  rw [frameString, List.append_assoc]
  exact slice_append_append (by simp) (bitsW_length _ _)

theorem frameString_slice_round : slice (frameString s) 92 16 = bitsW 16 s.round.toNat :=
  slice_append_append (by simp) (bitsW_length _ _)

theorem frameString_slice_sender : slice (frameString s) 108 8 = bitsW 8 s.sender.toNat := by
  rw [frameString, ← List.append_nil (_ ++ bitsW 8 _)]
  exact slice_append_append (by simp) (bitsW_length _ _)

end

/-- A buffer that holds a string with a register's bits at `i` has bit `j` of the register, counted
from its most significant, at `i + j`. -/
theorem bufBit_bufPut_of_slice {x : Bits} {i w : Nat} {v : BitVec w}
    (h : slice x i w = bitsW w v.toNat) {j : Nat} (hj : j < w) (hi : i + j < 160) :
    bufBit (bufPut x) (i + j) = v.getLsbD (w - 1 - j) := by
  rw [bufBit_bufPut x hi, List.getD_eq_getElem?_getD, ← slice_getElem? x i w j hj, h,
    bitsW_toNat_getElem? v hj, Option.getD_some]

/-- Bit `j` of a field read out of a buffer's string, counted from its most significant. -/
theorem frameField_bufGet_getLsbD (b : Buffer) {n w i j : Nat} (hw : i + w ≤ n) (hj : j < w) :
    (frameField w (bufGet b n) i).getLsbD (w - 1 - j) = bufBit b (i + j) := by
  have hlen : (slice (bufGet b n) i w).length = w := slice_length _ _ _ (by rwa [bufGet_length])
  rw [frameField, BitVec.getLsbD_ofNat, intOf_testBit, hlen, if_pos (by omega),
    decide_eq_true (by omega), Bool.true_and, show w - 1 - (w - 1 - j) = j by omega,
    List.getD_eq_getElem?_getD, slice_getElem? _ _ _ _ hj, bufGet_getElem? _ _ _ (by omega),
    Option.getD_some]

/-! ### Each command's outcome under each check -/

section
variable {s : State}

theorem execPack_of_dlc_le (h : s.dlc.toNat ≤ 8) :
    execPack s = .next ((s.setRaw (bufPut (frameString s)) 116).setStatus .clear) :=
  if_neg h.not_gt

theorem execPack_of_lt_dlc (h : 8 < s.dlc.toNat) :
    execPack s = .next (s.setStatus (.ofError .payload)) :=
  if_pos h

theorem execUnpack_of_rawLen_eq (h : s.rawLen.toNat = 116) :
    execUnpack s = .next ((s.setFrame (frameField 11 (rawString s) 0)
      (Vector.ofFn fun k => frameField 8 (rawString s) (11 + 8 * k.val))
      (frameField 1 (rawString s) 75) (frameField 16 (rawString s) 76)
      (frameField 16 (rawString s) 92) (frameField 8 (rawString s) 108)).setStatus .clear) :=
  if_neg (not_not.2 h)

theorem execUnpack_of_rawLen_ne (h : s.rawLen.toNat ≠ 116) :
    execUnpack s = .next (s.setStatus (.ofError .length)) :=
  if_pos h

theorem execStuff_of_fits (h : s.rawLen.toNat ≤ 160)
    (hfit : (stuffBits (rawString s)).length ≤ 160) :
    execStuff s = .next ((s.setStf (bufPut (stuffBits (rawString s)))
      (BitVec.ofNat 8 (stuffBits (rawString s)).length)).setStatus .clear) :=
  (if_neg h.not_gt).trans (if_neg hfit.not_gt)

theorem execStuff_of_lt_rawLen (h : 160 < s.rawLen.toNat) :
    execStuff s = .next (s.setStatus (.ofError .length)) :=
  if_pos h

theorem execStuff_of_overflow (h : s.rawLen.toNat ≤ 160)
    (hover : 160 < (stuffBits (rawString s)).length) :
    execStuff s = .next (s.setStatus (.ofError .overflow)) :=
  (if_neg h.not_gt).trans (if_pos hover)

theorem execDestuff_of_stfLen_le (h : s.stfLen.toNat ≤ 160) :
    execDestuff s = .next ((s.setRaw (bufPut (destuffBits (stfString s)))
      (BitVec.ofNat 8 (destuffBits (stfString s)).length)).setStatus .clear) :=
  if_neg h.not_gt

theorem execDestuff_of_lt_stfLen (h : 160 < s.stfLen.toNat) :
    execDestuff s = .next (s.setStatus (.ofError .length)) :=
  if_pos h

theorem execIdExtract_of_fits (h : s.idsLen.toNat ≤ 16)
    (hfit : intOf (destuffBits (idsString s)) ≤ 0x7FF) :
    execIdExtract s =
      .next ((s.setId (BitVec.ofNat 11 (intOf (destuffBits (idsString s))))).setStatus .clear) :=
  (if_neg h.not_gt).trans (if_neg hfit.not_gt)

theorem execIdExtract_of_lt_idsLen (h : 16 < s.idsLen.toNat) :
    execIdExtract s = .next (s.setStatus (.ofError .fieldLen)) :=
  if_pos h

theorem execIdExtract_of_out_of_range (h : s.idsLen.toNat ≤ 16)
    (hbig : 0x7FF < intOf (destuffBits (idsString s))) :
    execIdExtract s = .next (s.setStatus (.ofError .idRange)) :=
  (if_neg h.not_gt).trans (if_pos hbig)

end

/-! ### A string in a buffer with its length register -/

/-- The length register of a buffer holds any length up to the buffer's capacity. -/
theorem toNat_bufLen {x : Bits} (h : x.length ≤ 160) : (BitVec.ofNat 8 x.length).toNat = x.length :=
  Nat.mod_eq_of_lt (by omega)

/-- The string reads back through the length register. -/
theorem bufGet_bufPut_bufLen {x : Bits} (h : x.length ≤ 160) :
    bufGet (bufPut x) (BitVec.ofNat 8 x.length).toNat = x := by
  rw [toNat_bufLen h, bufGet_bufPut h]

/-! ### Identifier-only strings -/

/-- ID_EXTRACT on a string whose destuffed form spells an identifier writes that identifier. -/
theorem execIdExtract_of_destuffBits_eq_idString {s : State} {v : BitVec 11}
    (h : s.idsLen.toNat ≤ 16) (hv : destuffBits (idsString s) = idString v) :
    execIdExtract s = .next ((s.setId v).setStatus .clear) := by
  have hint : intOf (destuffBits (idsString s)) = v.toNat := by
    rw [hv, idString, intOf_bitsW, Nat.mod_eq_of_lt v.isLt]
  rw [execIdExtract_of_fits h (by omega), hint, BitVec.ofNat_toNat, BitVec.setWidth_eq]

/-- The value of a stuffed identifier fits IDS. -/
theorem idStuff_ids_toNat {s t : State} (h : execIdStuff s = .next t) :
    t.ids.toNat = intOf (stuffBits (idString s.id)) := by
  have hlen := stuffBits_idString_length_le s.id
  rw [execIdStuff_next h]
  exact Nat.mod_eq_of_lt
    ((intOf_lt _).trans_le (Nat.pow_le_pow_right (by decide) (by omega)))

/-- The string ID_STUFF writes is the stuffed identifier (R70). -/
theorem idStuff_idsString {s t : State} (h : execIdStuff s = .next t) :
    idsString t = stuffBits (idString s.id) := by
  rw [idsString, idStuff_idsLen h, idStuff_ids_toNat h, bitsW_intOf]

/-! ### The statements -/

/-- Settles O37: RAW holds `frameString`, whose slices are the fields; it ends at bit 116. -/
theorem packLaysOutFrame : Obligations.PackLaysOutFrame := by
  intro s
  refine ⟨fun h => ⟨bufPut (frameString s), execPack_of_dlc_le h, fun i hi => ?_,
    fun k j hj => ?_, ?_, fun i hi => ?_, fun i hi => ?_, fun i hi => ?_, fun i hlen hi => ?_⟩,
    execPack_of_lt_dlc⟩
  · simpa using bufBit_bufPut_of_slice (frameString_slice_id s) hi (by omega)
  · rw [bufBit_bufPut_of_slice (frameString_slice_payload s k) hj (by omega)]
    split <;> simp [*]
  · exact bufBit_bufPut_of_slice (j := 0) (frameString_slice_ack s) Nat.zero_lt_one (by decide)
  · exact bufBit_bufPut_of_slice (frameString_slice_crc s) hi (by omega)
  · exact bufBit_bufPut_of_slice (frameString_slice_round s) hi (by omega)
  · exact bufBit_bufPut_of_slice (frameString_slice_sender s) hi (by omega)
  · exact bufBit_bufPut_of_length_le (by rwa [frameString_length]) hi

/-- Settles O38: each register UNPACK writes is a field of the 116-bit string in RAW. -/
theorem unpackSlicesFields : Obligations.UnpackSlicesFields := by
  intro s
  refine ⟨fun h => ⟨_, _, _, _, _, _, execUnpack_of_rawLen_eq h, ?_⟩, execUnpack_of_rawLen_ne⟩
  have hbit : ∀ {w i j : Nat}, i + w ≤ 116 → j < w →
      (frameField w (rawString s) i).getLsbD (w - 1 - j) = bufBit s.raw (i + j) :=
    fun hw hj => frameField_bufGet_getLsbD s.raw (by rwa [h]) hj
  refine ⟨fun i hi => ?_, fun k j hj => ?_, hbit (by decide) Nat.zero_lt_one,
    fun i hi => hbit (by decide) hi, fun i hi => hbit (by decide) hi,
    fun i hi => hbit (by decide) hi⟩
  · simpa using hbit (i := 0) (by decide) hi
  · simpa using hbit (i := 11 + 8 * k.val) (by omega) hj

/-- Settles O40: the two checks decide the outcome; R65's bound puts 134 bits under the limit, and
constant strings reach it. -/
theorem stuffCommandStuffsRaw : Obligations.StuffCommandStuffsRaw := by
  refine ⟨fun s => ⟨fun h hfit => ?_, execStuff_of_lt_rawLen, execStuff_of_overflow,
      fun h => ?_⟩,
    stuffBits_replicate_length 134 false, stuffBits_replicate_length 135 false⟩
  · have hn := toNat_bufLen hfit
    exact ⟨_, _, execStuff_of_fits h hfit, bufGet_bufPut_bufLen hfit, hn,
      fun i hlen hi => bufBit_bufPut_of_length_le (hn.ge.trans hlen) hi⟩
  · have hle := stuffBits_length_le (bufGet s.raw s.rawLen.toNat)
    rw [bufGet_length] at hle
    omega

/-- Settles O41: destuffing never lengthens, so what fits STF fits RAW. -/
theorem destuffCommandDestuffsStf : Obligations.DestuffCommandDestuffsStf := by
  refine fun s => ⟨fun h => ?_, execDestuff_of_lt_stfLen⟩
  have hfit : (destuffBits (stfString s)).length ≤ 160 :=
    (destuffBits_length_le _).trans (by rwa [stfString, bufGet_length])
  have hn := toNat_bufLen hfit
  exact ⟨_, _, execDestuff_of_stfLen_le h, bufGet_bufPut_bufLen hfit, hn, hn.trans_le hfit,
    fun i hlen hi => bufBit_bufPut_of_length_le (hn.ge.trans hlen) hi⟩

/-- Settles O42: the value and the length both fit their registers, so the string reads back. -/
theorem idStuffWritesStuffedIdentifier : Obligations.IdStuffWritesStuffedIdentifier := by
  intro s
  obtain ⟨t, h⟩ : ∃ t, execIdStuff s = .next t := ⟨_, rfl⟩
  have hv := idStuff_ids_toNat h
  have hn := idStuff_idsLen h
  have hlow := length_le_stuffBits_length (idString s.id)
  rw [idString, bitsW_length] at hlow
  refine ⟨t.ids, t.idsLen, ?_, hv, hn, idStuff_idsString h, hn ▸ hlow,
    hn ▸ stuffBits_idString_length_le s.id, ?_⟩
  · rw [execIdStuff_next h]
    rfl
  · rw [hv, hn]
    exact intOf_lt _

/-- Settles O43: the checks decide the outcome; the empty string has value 0; and what ID_STUFF wrote
destuffs to the identifier's own string. -/
theorem idExtractWritesIdentifier : Obligations.IdExtractWritesIdentifier := by
  refine ⟨fun s => ⟨fun h hfit => ⟨_, ?_, execIdExtract_of_fits h hfit⟩,
    execIdExtract_of_lt_idsLen, execIdExtract_of_out_of_range, fun h => ?_⟩,
    fun s t u h hids hlen => ?_⟩
  · exact Nat.mod_eq_of_lt (Nat.lt_succ_of_le hfit)
  · have hempty : idsString s = [] := by rw [idsString, h]; rfl
    have hfits := execIdExtract_of_fits (s := s) (by rw [h]; decide) (by rw [hempty]; decide)
    rw [hempty] at hfits
    exact hfits
  · have hu : idsString u = stuffBits (idString s.id) := by
      rw [idsString, hids, hlen]
      exact idStuff_idsString h
    have hshort := stuffBits_idString_length_le s.id
    have hle : u.idsLen.toNat ≤ 16 := by
      rw [hlen, idStuff_idsLen h]
      omega
    exact execIdExtract_of_destuffBits_eq_idString hle (by rw [hu, destuffBits_stuffBits])

end Sys2Proof.Machine

/-! ## Family 42_arbitration: the reduction and the command ARBITRATE (R72 to R76) -/

namespace Sys2Proof.Machine

/-! ### The wired-AND rule on masks -/

/-- Clearing the driven bits leaves the contenders that drive 0. -/
theorem mem_slotsOf_and_not_drivenBits {keys : List Bits} {p s : Nat} {cont : Word} :
    s ∈ slotsOf (cont &&& ~~~drivenBits keys p cont) ↔
      s ∈ slotsOf cont ∧ keyBit keys p s = false := by
  simp only [mem_slotsOf, BitVec.getLsbD_and, BitVec.getLsbD_not, and_assoc]
  refine and_congr_right fun hs => ?_
  rw [drivenBits_getLsbD keys p cont s hs]
  cases cont.getLsbD s <;> simp [hs]

/-- No contender drives 0 exactly when all drive 1. -/
theorem and_not_drivenBits_eq_zero {keys : List Bits} {p : Nat} {cont : Word} :
    cont &&& ~~~drivenBits keys p cont = 0 ↔ ∀ s ∈ slotsOf cont, keyBit keys p s = true := by
  rw [← slotsOf_eq_nil, List.eq_nil_iff_forall_not_mem]
  simp [mem_slotsOf_and_not_drivenBits]

/-- The slots the wired-AND rule keeps are the running group (R74 item 1). -/
theorem mem_slotsOf_dominant {keys : List Bits} {p s : Nat} {cont : Word} :
    s ∈ slotsOf (dominant cont (drivenBits keys p cont)) ↔ s ∈ runningGroup keys p cont := by
  rw [mem_runningGroup, dominant]
  split
  next hall =>
    have hone := and_not_drivenBits_eq_zero.1 hall
    exact ⟨fun h => ⟨h, .inr hone⟩, fun h => h.1⟩
  next hsome =>
    have hzero := and_not_drivenBits_eq_zero.not.1 hsome
    rw [mem_slotsOf_and_not_drivenBits, or_iff_left hzero]

theorem maskOf_runningGroup (keys : List Bits) (p : Nat) (cont : Word) :
    maskOf (runningGroup keys p cont) = dominant cont (drivenBits keys p cont) := by
  apply BitVec.eq_of_getLsbD_eq
  intro s hs
  rw [maskOf_getLsbD _ _ hs, Bool.eq_iff_iff, decide_eq_true_iff, ← mem_slotsOf_dominant,
    mem_slotsOf, and_iff_right hs]

/-- The wired-AND rule keeps some contender (R76 item 2). -/
theorem dominant_ne_zero {cont : Word} (bits : Word) (h : cont ≠ 0) : dominant cont bits ≠ 0 := by
  unfold dominant
  split <;> assumption

/-! ### The contender sets of a reduction -/

/-- `cont_p` of R74: the contender set before position `p`, from the initial set `c0`. -/
def contendersAt (keys : List Bits) (c0 : Word) : Nat → Word
  | 0 => c0
  | p + 1 => dominant (contendersAt keys c0 p) (drivenBits keys p (contendersAt keys c0 p))

/-- HIST_CONT and HIST_BITS of position `p` (R73). -/
def historyEntry (keys : List Bits) (c0 : Word) (p : Nat) : Word × Word :=
  (contendersAt keys c0 p, drivenBits keys p (contendersAt keys c0 p))

theorem contendersAt_ne_zero {c0 : Word} (keys : List Bits) (h : c0 ≠ 0) (p : Nat) :
    contendersAt keys c0 p ≠ 0 := by
  induction p with
  | zero => exact h
  | succ p ih => exact dominant_ne_zero _ ih

/-- A position with a contender is never the one the "defensive guard" stops at (R73). -/
theorem reduceFrom_succ {keys : List Bits} {n p : Nat} {cont final : Word}
    {hist : List (Word × Word)} (h : cont ≠ 0)
    (hrest : reduceFrom keys n (p + 1) (dominant cont (drivenBits keys p cont)) =
      some (hist, final)) :
    reduceFrom keys (n + 1) p cont = some ((cont, drivenBits keys p cont) :: hist, final) := by
  have hgroup := runningGroup_ne_nil (keys := keys) (p := p) h
  obtain ⟨g, rest, hg⟩ := List.exists_cons_of_ne_nil hgroup
  rw [← maskOf_runningGroup, hg] at hrest
  simp only [reduceFrom, hg, hrest]

/-- The loop of R73 from position `p` records the contender sets of R74 and ends with the last. -/
theorem reduceFrom_contendersAt {c0 : Word} (keys : List Bits) (h : c0 ≠ 0) (n p : Nat) :
    reduceFrom keys n p (contendersAt keys c0 p) =
      some ((List.range' p n).map (historyEntry keys c0), contendersAt keys c0 (p + n)) := by
  induction n generalizing p with
  | zero => rfl
  | succ n ih =>
    have hrest := ih (p + 1)
    rw [Nat.add_right_comm] at hrest
    exact reduceFrom_succ (contendersAt_ne_zero keys h p) hrest

/-! ### Keys and width -/

theorem slotKeys_getD (sm : Bool) (s : State) (k : Fin 32) :
    (slotKeys sm s).getD k [] = keyOf sm s.slotId[k] := by
  simp [slotKeys]

theorem keyBit_slotKeys (sm : Bool) (s : State) (p : Nat) (k : Fin 32) :
    keyBit (slotKeys sm s) p k = (keyOf sm s.slotId[k]).getD p true := by
  rw [keyBit, slotKeys_getD]

/-- In stuffed mode no contender's key is longer than the width (R72). -/
theorem key_length_le_arbitrationWidth {c0 : Word} {s : Nat} (keys : List Bits)
    (h : s ∈ slotsOf c0) : (keys.getD s []).length ≤ arbitrationWidth true keys c0 := by
  have hmem := List.mem_map_of_mem (f := fun s => (keys.getD s []).length) h
  rw [arbitrationWidth, if_pos rfl, List.foldl_max_eq_max (List.ne_nil_of_mem hmem)]
  exact (List.le_max_of_mem hmem).trans (Nat.le_max_right _ _)

/-- In stuffed mode some contender's key has the width as its length (R72). -/
theorem exists_key_length_eq_arbitrationWidth {c0 : Word} (keys : List Bits) (h : c0 ≠ 0) :
    ∃ s ∈ slotsOf c0, (keys.getD s []).length = arbitrationWidth true keys c0 := by
  have hne : (slotsOf c0).map (fun s => (keys.getD s []).length) ≠ [] :=
    List.map_eq_nil_iff.not.2 (slotsOf_eq_nil.not.2 h)
  rw [arbitrationWidth, if_pos rfl, List.foldl_max_eq_max hne, Nat.zero_max]
  exact List.mem_map.1 (List.max_mem hne)

/-- The width of an arbitration of the block: `W` of R72. -/
def arbW (sm : Bool) (s : State) : Nat := arbitrationWidth sm (slotKeys sm s) s.contMask

section
variable {s : State}

theorem key_length_le_arbW {k : Fin 32} (h : s.contMask.getLsbD k = true) :
    (keyOf true s.slotId[k]).length ≤ arbW true s := by
  rw [← slotKeys_getD]
  exact key_length_le_arbitrationWidth _ (mem_slotsOf.2 ⟨k.isLt, h⟩)

theorem exists_key_length_eq_arbW (h : s.contMask ≠ 0) :
    ∃ k : Fin 32, s.contMask.getLsbD k = true ∧
      arbW true s = (keyOf true s.slotId[k]).length := by
  obtain ⟨k, hk, hlen⟩ := exists_key_length_eq_arbitrationWidth (slotKeys true s) h
  obtain ⟨hlt, hcont⟩ := mem_slotsOf.1 hk
  exact ⟨⟨k, hlt⟩, hcont, by rw [← slotKeys_getD, arbW, hlen]⟩

/-- A width is at least the 11 bits of an identifier, which stuffing never shortens (R76 item 1). -/
theorem le_arbW (sm : Bool) (h : s.contMask ≠ 0) : 11 ≤ arbW sm s := by
  cases sm with
  | false => exact Nat.le_refl 11
  | true =>
    obtain ⟨k, -, hk⟩ := exists_key_length_eq_arbW h
    have hlen := length_le_stuffBits_length (idString s.slotId[k])
    rw [idString, bitsW_length] at hlen
    exact hlen.trans_eq hk.symm

/-- A width is at most 13, so it fits ARB_WIDTH and the history (R76 item 1). -/
theorem arbW_le (sm : Bool) (h : s.contMask ≠ 0) : arbW sm s ≤ 13 := by
  cases sm with
  | false => exact (by decide : 11 ≤ 13)
  | true =>
    obtain ⟨k, -, hk⟩ := exists_key_length_eq_arbW h
    exact hk.trans_le (stuffBits_idString_length_le _)

end

/-! ### History registers -/

/-- The history entries below the width (R73). -/
def arbHistory (sm : Bool) (s : State) : List (Word × Word) :=
  (List.range (arbW sm s)).map (historyEntry (slotKeys sm s) s.contMask)

/-- A history register reads its entry below the width and 0 from there on (R24). -/
theorem historyOf_arbHistory_getElem? {sm : Bool} {s : State} (h : s.contMask ≠ 0)
    (f : Word × Word → Word) (p : Nat) :
    (historyOf ((arbHistory sm s).map f))[p]?.getD 0 =
      if p < arbW sm s then f (historyEntry (slotKeys sm s) s.contMask p) else 0 := by
  have hw := arbW_le sm h
  by_cases hp : p < arbW sm s
  · simp [historyOf, arbHistory, hp, show p < 16 by omega]
  · by_cases h16 : p < 16 <;> simp [historyOf, arbHistory, hp, h16]

/-! ### Winner and tie -/

/-- `lowest` of a non-empty mask is in it, and nothing below is (R11). -/
theorem lowest_spec {m : Word} (h : m ≠ 0) :
    lowest m < 32 ∧ m.getLsbD (lowest m) = true ∧ ∀ j < lowest m, m.getLsbD j = false := by
  obtain ⟨g, rest, hg⟩ := List.exists_cons_of_ne_nil (slotsOf_eq_nil.not.2 h)
  have hfind : (List.range 32).find? (fun s => m.getLsbD s) = some g := by
    rw [← List.head?_filter]
    exact congrArg List.head? hg
  rw [lowest, hg, List.headD_cons]
  obtain ⟨hbit, hlt, hbelow⟩ := List.find?_range_eq_some.1 hfind
  exact ⟨List.mem_range.1 hlt, hbit, fun j hj => by simpa using hbelow j hj⟩

/-- More than one slot is set exactly when two different ones are. -/
theorem one_lt_popcount {m : Word} :
    1 < popcount m ↔ ∃ j k : Fin 32, j ≠ k ∧ m.getLsbD j = true ∧ m.getLsbD k = true := by
  have hnodup : (slotsOf m).Nodup := List.nodup_range.filter _
  rw [popcount, ← List.toFinset_card_of_nodup hnodup, Finset.one_lt_card]
  simp only [List.mem_toFinset, mem_slotsOf]
  constructor
  · rintro ⟨j, ⟨hj, hmj⟩, k, ⟨hk, hmk⟩, hne⟩
    exact ⟨⟨j, hj⟩, ⟨k, hk⟩, Fin.ne_of_val_ne hne, hmj, hmk⟩
  · rintro ⟨j, k, hne, hmj, hmk⟩
    exact ⟨j, ⟨j.isLt, hmj⟩, k, ⟨k.isLt, hmk⟩, Fin.val_ne_of_ne hne⟩

/-! ### ARBITRATE with contenders -/

/-- The contenders left after the last position (R75). -/
def survivors (sm : Bool) (s : State) : Word :=
  contendersAt (slotKeys sm s) s.contMask (arbW sm s)

/-- The state after ARBITRATE with contenders (R75). -/
def arbitrated (sm : Bool) (s : State) : State :=
  ((s.setArb (BitVec.ofNat 5 (lowest (survivors sm s))) (survivors sm s)
        (s.contMask &&& ~~~survivors sm s) (BitVec.ofNat 5 (arbW sm s))).setHist
      (historyOf ((arbHistory sm s).map Prod.fst))
      (historyOf ((arbHistory sm s).map Prod.snd))).setStatus
    (.ofTie (decide (1 < popcount (survivors sm s))))

theorem execArbitrate_of_contMask_eq_zero {sm : Bool} {s : State} (h : s.contMask = 0) :
    execArbitrate sm s =
      .next (((s.setArb 0 0 0 0).setHist (historyOf []) (historyOf [])).setStatus .nothing) :=
  if_pos h

theorem execArbitrate_of_contMask_ne_zero {sm : Bool} {s : State} (h : s.contMask ≠ 0) :
    execArbitrate sm s = .next (arbitrated sm s) := by
  have hred := reduceFrom_contendersAt (slotKeys sm s) h (arbW sm s) 0
  rw [contendersAt, Nat.zero_add, ← List.range_eq_range'] at hred
  rw [execArbitrate, if_neg h, ← arbW, hred]
  rfl

section
variable {sm : Bool} {s : State} (h : s.contMask ≠ 0)
include h

theorem survivors_ne_zero : survivors sm s ≠ 0 := contendersAt_ne_zero _ h _

theorem arbitrated_arbWidth : (arbitrated sm s).arbWidth.toNat = arbW sm s := by
  have hw := arbW_le sm h
  exact Nat.mod_eq_of_lt (by omega)

theorem arbitrated_winSlot : (arbitrated sm s).winSlot.toNat = lowest (survivors sm s) :=
  Nat.mod_eq_of_lt (lowest_spec (survivors_ne_zero h)).1

theorem arbitrated_contAt (p : Nat) : (arbitrated sm s).contAt p =
    if p < arbW sm s then contendersAt (slotKeys sm s) s.contMask p else 0 :=
  historyOf_arbHistory_getElem? h _ p

theorem arbitrated_bitsAt (p : Nat) : (arbitrated sm s).bitsAt p =
    if p < arbW sm s then
      drivenBits (slotKeys sm s) p (contendersAt (slotKeys sm s) s.contMask p)
    else 0 :=
  historyOf_arbHistory_getElem? h _ p

end

/-! ### The statements -/

/-- Settles O46: the history holds the contender sets of `contendersAt`, each the wired-AND of the
one before; the last set, never empty, is read off as survivors, losers, winner and tie. -/
theorem arbitrateReducesBitwise : Obligations.ArbitrateReducesBitwise := by
  refine fun sm s => ⟨fun h => ⟨historyOf [], historyOf [], fun p => ?_,
    execArbitrate_of_contMask_eq_zero h⟩, fun h => ?_⟩
  · simp [historyOf]
  · have hpos : 0 < arbW sm s := (by decide : 0 < 11).trans_le (le_arbW sm h)
    obtain ⟨-, hwin, hbelow⟩ := lowest_spec (survivors_ne_zero (sm := sm) h)
    refine ⟨arbitrated sm s, decide (1 < popcount (survivors sm s)),
      execArbitrate_of_contMask_ne_zero h, ?_⟩
    simp only [arbitrated_arbWidth h, arbitrated_winSlot h, arbitrated_contAt h,
      arbitrated_bitsAt h]
    refine ⟨?raw, ?stuffed, if_pos hpos, fun p k hp => ?driven, fun p hp => ?chain,
      fun p hp => ?last, fun p hp => ?unused, survivors_ne_zero h, rfl, hwin, hbelow,
      decide_eq_true_iff.trans one_lt_popcount⟩
    case raw => rintro rfl; rfl
    case stuffed =>
      rintro rfl
      exact ⟨exists_key_length_eq_arbW h, fun _ => key_length_le_arbW⟩
    case driven =>
      rw [if_pos hp, if_pos hp, drivenBits_getLsbD _ _ _ _ k.isLt, keyBit_slotKeys]
    case chain =>
      rw [if_pos hp, if_pos (by omega), if_pos (by omega), contendersAt]
    case last =>
      rw [if_pos (by omega), if_pos (by omega)]
      exact congrArg (contendersAt _ _) hp.symm
    case unused => exact ⟨if_neg hp.not_gt, if_neg hp.not_gt⟩

end Sys2Proof.Machine

/-! ## Family 43_control: NOP and the illegal word (R77, R78) -/

namespace Sys2Proof

/-! ### Legal words and opcodes of commands -/

/-- Every command's word is legal (R48), by the law of each. -/
theorem legalWord_encode (i : Instr) : legalWord (encode i) = true := by
  have h : Laws.EncodesLegal.Statement i := by
    cases i with
    | nop => exact Laws.EncodesLegal.nop
    | crcGen fe => exact Laws.EncodesLegal.crcGen fe
    | crcCheck fe => exact Laws.EncodesLegal.crcCheck fe
    | pack => exact Laws.EncodesLegal.pack
    | unpack => exact Laws.EncodesLegal.unpack
    | stuff => exact Laws.EncodesLegal.stuff
    | destuff => exact Laws.EncodesLegal.destuff
    | idStuff => exact Laws.EncodesLegal.idStuff
    | idExtract => exact Laws.EncodesLegal.idExtract
    | arbitrate sm => exact Laws.EncodesLegal.arbitrate sm
  exact (h (by cases i <;> rfl)).1

/-- The decoder rejects every word that R48 calls illegal. -/
theorem exists_decode_error_of_not_legalWord {w : Word} (h : legalWord w = false) :
    ∃ e, decode w = .error e := by
  cases hd : decode w with
  | error e => exact ⟨e, rfl⟩
  | ok i =>
    rw [decode_eq_ok_iff.1 hd, legalWord_encode] at h
    cases h

/-- Only NOP has OP = 0x00 (R46). -/
theorem eq_nop_of_encode_mod {i : Instr} (h : (encode i).toNat % 256 = 0) : i = .nop := by
  cases i with
  | nop => rfl
  | crcGen b | crcCheck b | arbitrate b => cases b <;> cases h
  | _ => cases h

end Sys2Proof

namespace Sys2Proof.Machine

/-! ### The statements -/

/-- Settles O6: the decoder rejects an illegal word, and the CMD write then raises E_ILLEGAL. -/
theorem illegalWordRaisesIllegal : Obligations.IllegalWordRaisesIllegal := by
  intro s w rest hp hw
  obtain ⟨e, he⟩ := exists_decode_error_of_not_legalWord hw
  exact ⟨(step_write_cmd hp).trans (hostCommand_error he), rfl⟩

/-- Settles O24: NOP is `finish` with nothing written before; a word with OP = 0x00 that decodes
is NOP's own word, 0. -/
theorem nopClearsStatus : Obligations.NopClearsStatus := by
  refine ⟨fun _ => rfl, rfl, fun w hop hne i hd => hne ?_⟩
  have hw : w = encode i := decode_eq_ok_iff.1 hd
  have hi : i = .nop := eq_nop_of_encode_mod (hw ▸ hop)
  rw [hw, hi]
  rfl

end Sys2Proof.Machine

/-! ## Family 60_exceptions: command errors and STATUS (R79 to R82) -/

namespace Sys2Proof.Machine

/-! ### The outcome of a command, by its expected code -/

/-- A command's outcome follows its expected code: either a check fails, and the command error of
that code is all that happens (R79), or none does, and the command leaves ERR = 0 and ECODE = 0. -/
theorem exec_next_expectedCode {i : Instr} {s t : State} (h : exec i s = .next t) :
    (∃ e : CmdError, expectedCode i s = e.code.toNat ∧ t = s.setStatus (.ofError e)) ∨
      (expectedCode i s = 0 ∧ t.status.err = false ∧ t.status.ecode = 0) := by
  cases i with
  | nop => rw [execNop_next h]; exact .inr ⟨rfl, rfl, rfl⟩
  | crcGen fe =>
    obtain ⟨hdlc, ht⟩ | ⟨hdlc, rfl⟩ := execCrcGen_next h
    · exact .inl ⟨.payload, if_pos hdlc, ht⟩
    · exact .inr ⟨if_neg hdlc.not_gt, rfl, rfl⟩
  | crcCheck fe =>
    obtain ⟨hdlc, ht⟩ | ⟨hdlc, rfl⟩ := execCrcCheck_next h
    · exact .inl ⟨.payload, if_pos hdlc, ht⟩
    · exact .inr ⟨if_neg hdlc.not_gt, rfl, rfl⟩
  | pack =>
    obtain ⟨hdlc, ht⟩ | ⟨hdlc, rfl⟩ := execPack_next h
    · exact .inl ⟨.payload, if_pos hdlc, ht⟩
    · exact .inr ⟨if_neg hdlc.not_gt, rfl, rfl⟩
  | unpack =>
    obtain ⟨hlen, ht⟩ | ⟨hlen, rfl⟩ := execUnpack_next h
    · exact .inl ⟨.length, if_pos hlen, ht⟩
    · exact .inr ⟨if_neg (not_not.2 hlen), rfl, rfl⟩
  | stuff =>
    obtain ⟨hlen, ht⟩ | ⟨hlen, hover, ht⟩ | ⟨hlen, hfit, rfl⟩ := execStuff_next h
    · exact .inl ⟨.length, if_pos hlen, ht⟩
    · exact .inl ⟨.overflow, (if_neg hlen.not_gt).trans (if_pos hover), ht⟩
    · exact .inr ⟨(if_neg hlen.not_gt).trans (if_neg hfit.not_gt), rfl, rfl⟩
  | destuff =>
    obtain ⟨hlen, ht⟩ | ⟨hlen, rfl⟩ := execDestuff_next h
    · exact .inl ⟨.length, if_pos hlen, ht⟩
    · exact .inr ⟨if_neg hlen.not_gt, rfl, rfl⟩
  | idStuff => rw [execIdStuff_next h]; exact .inr ⟨rfl, rfl, rfl⟩
  | idExtract =>
    obtain ⟨hlen, ht⟩ | ⟨hlen, hbig, ht⟩ | ⟨hlen, hfit, rfl⟩ := execIdExtract_next h
    · exact .inl ⟨.fieldLen, if_pos hlen, ht⟩
    · exact .inl ⟨.idRange, (if_neg hlen.not_gt).trans (if_pos hbig), ht⟩
    · exact .inr ⟨(if_neg hlen.not_gt).trans (if_neg hfit.not_gt), rfl, rfl⟩
  | arbitrate sm =>
    obtain ⟨-, rfl⟩ | ⟨-, _, _, -, rfl⟩ := execArbitrate_next h <;> exact .inr ⟨rfl, rfl, rfl⟩

/-- A command that leaves ERR = 1 took a command error. -/
theorem eq_setStatus_ofError_of_exec {i : Instr} {s t : State} (h : exec i s = .next t)
    (herr : t.status.err = true) : ∃ e, t = s.setStatus (.ofError e) := by
  obtain ⟨e, -, ht⟩ | ⟨-, hok, -⟩ := exec_next_expectedCode h
  · exact ⟨e, ht⟩
  · exact absurd herr (hok ▸ Bool.false_ne_true)

/-- The same of a CMD write of any word, where the decode check is one more cause (R78). -/
theorem eq_setStatus_ofError_of_hostCommand {s t : State} {w : Word}
    (h : hostCommand exec s w = .next t) (herr : t.status.err = true) :
    ∃ e, t = s.setStatus (.ofError e) := by
  cases hw : decode w with
  | ok i => exact eq_setStatus_ofError_of_exec (hostCommand_ok hw ▸ h) herr
  | error e =>
    rw [hostCommand_error hw] at h
    cases h
    exact ⟨.illegal, rfl⟩

/-! ### Codes -/

theorem CmdError.code_toNat_bounds (e : CmdError) : 0 < e.code.toNat ∧ e.code.toNat ≤ 6 := by
  cases e <;> decide

theorem CmdError.code_ne_zero (e : CmdError) : e.code ≠ 0 := fun h =>
  e.code_toNat_bounds.1.ne' (congrArg BitVec.toNat h)

/-! ### Commands do not see STATUS -/

/-- No check and no value a command computes looks at STATUS, and every outcome writes all of it,
last: each arm with another STATUS unfolds to the arm itself. -/
theorem exec_setStatus (i : Instr) (s : State) (st : Status) :
    exec i (s.setStatus st) = exec i s := by
  cases i <;> rfl

theorem hostCommand_exec_setStatus (s : State) (st : Status) (w : Word) :
    hostCommand exec (s.setStatus st) w = hostCommand exec s w := by
  cases hw : decode w with
  | ok i => rw [hostCommand_ok hw, hostCommand_ok hw, exec_setStatus]
  | error e => rw [hostCommand_error hw, hostCommand_error hw]; rfl

/-! ### The statements -/

/-- Settles O15: whatever raises it, an error is one `setStatus` of the error's own STATUS. -/
theorem errorsArePrecise : Obligations.ErrorsArePrecise := by
  refine ⟨fun i s t h herr => ?_, fun s t w rest hp h herr => ?_⟩
  · obtain ⟨e, rfl⟩ := eq_setStatus_ofError_of_exec h herr
    exact ⟨e.code, e.code_ne_zero, rfl⟩
  · rw [step_write_cmd hp] at h
    obtain ⟨e, rfl⟩ := eq_setStatus_ofError_of_hostCommand h herr
    exact ⟨e.code, e.code_ne_zero, rfl⟩

/-- Settles O16: each command's checks fail in the order of its expected code, which is an error's
code (1 to 6) or 0; the decoder rejects an illegal word before any other check. -/
theorem errorCodesFollowTheirCauses : Obligations.ErrorCodesFollowTheirCauses := by
  refine ⟨fun i s t h => ?_, fun s w rest hp hw => ?_⟩
  · obtain ⟨e, hcode, rfl⟩ | ⟨hcode, herr, hzero⟩ := exec_next_expectedCode h
    · obtain ⟨hpos, hle⟩ := e.code_toNat_bounds
      rw [hcode]
      exact ⟨rfl, iff_of_true rfl hpos.ne', hle⟩
    · simp [hcode, herr, hzero]
  · obtain ⟨hstep, -⟩ := illegalWordRaisesIllegal s w rest hp hw
    exact ⟨_, hstep, rfl, rfl⟩

/-- Settles O17: the CMD write is decoded without STATUS, and neither a command nor E_ILLEGAL keeps
any of it. -/
theorem everyCommandRewritesStatus : Obligations.EveryCommandRewritesStatus := by
  refine ⟨fun s st w rest hp => ?_, fun page => rfl⟩
  have hp' : (s.setStatus st).pending = .write ((s.setStatus st).base + 0) 4 w :: rest := hp
  calc step (s.setStatus st)
      = hostCommand exec ((s.setPending rest).setStatus st) w := step_write_cmd hp'
    _ = hostCommand exec (s.setPending rest) w := hostCommand_exec_setStatus _ st w
    _ = step s := (step_write_cmd hp).symm

end Sys2Proof.Machine

/-! ## Family 70_reset_and_hazards: the reset state (R88, R89) -/

namespace Sys2Proof.Machine

/-! ### Every command answers a next state -/

/-- A check between two outcomes that go on goes on. -/
theorem exists_next_ite {c : Prop} [Decidable c] {a b : Result} (ha : ∃ t, a = .next t)
    (hb : ∃ t, b = .next t) : ∃ t, (if c then a else b) = .next t := by
  split
  · exact ha
  · exact hb

/-- In any state a command succeeds or takes a command error after none, one or two checks, and
ARBITRATE with contenders keeps some to the end, so its reduction is never stuck (R76 item 2). -/
theorem exists_exec_next (i : Instr) (s : State) : ∃ t, exec i s = .next t := by
  cases i with
  | nop | idStuff => exact ⟨_, rfl⟩
  | crcGen fe | crcCheck fe | pack | unpack | destuff => exact exists_next_ite ⟨_, rfl⟩ ⟨_, rfl⟩
  | stuff | idExtract =>
    exact exists_next_ite ⟨_, rfl⟩ (exists_next_ite ⟨_, rfl⟩ ⟨_, rfl⟩)
  | arbitrate sm =>
    by_cases hcont : s.contMask = 0
    · exact ⟨_, execArbitrate_of_contMask_eq_zero hcont⟩
    · exact ⟨_, execArbitrate_of_contMask_ne_zero hcont⟩

/-! ### Register reads after reset -/

/-- R88's values: a bank is a vector of zeros, and every other register is a field of its own. -/
theorem readReg_resetAt (page : Nat) (r : Reg) :
    readReg (State.resetAt page) r = if r = .poly then 0x00001021 else 0 := by
  cases r with
  | data k | slotId k => exact congrArg (BitVec.setWidth 32) (Vector.getElem_replicate _)
  | raw k | stf k | histCont p | histBits p => exact Vector.getElem_replicate _
  | _ => rfl

/-! ### The statement -/

/-- Settles O11: a reset event puts the registers where `State.resetAt` has them, at the same base,
and commands answer there because they answer in every state. -/
theorem resetLeavesResetValues : Obligations.ResetLeavesResetValues :=
  ⟨fun s _ hp => ⟨_, step_reset hp, fun r => readReg_resetAt s.basePage r, rfl⟩,
    readReg_resetAt, fun page i => exists_exec_next i (State.resetAt page)⟩

end Sys2Proof.Machine

/-! ## Family other: the opcode map, both ways (R45 to R49) -/

namespace Sys2Proof

/-! ### Legal words are the commands' words -/

/-- The thirteen commands in the order of the opcode map (R46). -/
def allInstrs : List Instr :=
  [.nop, .crcGen false, .crcGen true, .crcCheck false, .crcCheck true, .pack, .unpack, .stuff,
    .destuff, .idStuff, .idExtract, .arbitrate false, .arbitrate true]

theorem mem_allInstrs (i : Instr) : i ∈ allInstrs := by
  cases i with
  | crcGen b | crcCheck b | arbitrate b => cases b <;> decide
  | _ => decide

/-- The opcode map has a row for each OP up to 0x09. -/
theorem exists_instrOf {op : Nat} (h : op ≤ 9) (fe sm : Bool) : ∃ i, instrOf op fe sm = some i := by
  have hrows : ∀ op : Fin 10, ∀ fe sm : Bool, (instrOf op.val fe sm).isSome = true := by decide
  exact Option.isSome_iff_exists.1 (hrows ⟨op, by omega⟩ fe sm)

/-- R48's four conditions in the decoder's own fields. -/
theorem fields_of_legalWord {w : Word} (h : legalWord w = true) :
    opField w ≤ 9 ∧ reservedField w = 0 ∧ (feField w && !takesFe (opField w)) = false ∧
      (smField w && !takesSm (opField w)) = false := by
  have hop : opField w = w.toNat % 256 := by simp [opField]
  have hres : (reservedField w).toNat = w.toNat / 1024 % 2 ^ 22 := by
    simp [reservedField, Nat.shiftRight_eq_div_pow]
  simp only [legalWord, Bool.and_eq_true, decide_eq_true_eq, ← hop] at h
  obtain ⟨⟨⟨hle, hzero⟩, hfe⟩, hsm⟩ := h
  refine ⟨hle, BitVec.eq_of_toNat_eq (by rw [hres, hzero]; rfl), ?_, ?_⟩
  · rw [Bool.or_assoc, ← takesFe, ← feField] at hfe
    cases hb : feField w <;> simp_all
  · rw [← takesSm, ← smField] at hsm
    cases hb : smField w <;> simp_all

theorem exists_decode_ok_iff_legalWord {w : Word} :
    (∃ i, decode w = .ok i) ↔ legalWord w = true := by
  constructor
  · rintro ⟨i, hi⟩
    rw [decode_eq_ok_iff.1 hi]
    exact legalWord_encode i
  · intro h
    obtain ⟨hop, hres, hfe, hsm⟩ := fields_of_legalWord h
    obtain ⟨i, hi⟩ := exists_instrOf hop (feField w) (smField w)
    exact ⟨i, by simp [decode, hi, hres, hfe, hsm]⟩

/-- Each command has one word, so the words that decode are the images of the thirteen commands. -/
theorem exists_decode_ok_iff_mem {w : Word} :
    (∃ i, decode w = .ok i) ↔ w ∈ allInstrs.map encode := by
  simp only [decode_eq_ok_iff, List.mem_map, mem_allInstrs, true_and, @eq_comm _ w]

/-! ### The statements -/

/-- Settles O2: a word decodes to a command exactly when it is the command's own word. -/
theorem decodeEncodeRoundTrip : Obligations.DecodeEncodeRoundTrip :=
  ⟨fun i _ => decode_encode i, fun _ _ h => (decode_eq_ok_iff.1 h).symm⟩

/-- Settles O3: past R48's four cases the opcode map has a row for OP and no check of the decoder
fails; the words listed are the thirteen commands' words. -/
theorem decodeAcceptsExactlyLegalWords : Obligations.DecodeAcceptsExactlyLegalWords := fun _ =>
  ⟨exists_decode_ok_iff_legalWord,
    exists_decode_ok_iff_legalWord.symm.trans exists_decode_ok_iff_mem⟩

/-- Settles O1: each word is the encoding of its command. -/
theorem specWordsDecode : Obligations.SpecWordsDecode :=
  ⟨decode_encode .nop, decode_encode (.crcGen true), decode_encode (.crcCheck false),
    decode_encode .unpack, decode_encode .idExtract, decode_encode (.arbitrate true)⟩

end Sys2Proof

/-! ## Family other: steps, host statements and runs (R28 to R33, R44, R54, R55) -/

namespace Sys2Proof.Machine

/-! ### Steps of the interface -/

/-- A CMD write of any word is answered, by the command or by E_ILLEGAL. -/
theorem exists_hostCommand_next (s : State) (w : Word) :
    ∃ t, hostCommand exec s w = .next t := by
  cases hw : decode w with
  | ok i => rw [hostCommand_ok hw]; exact exists_exec_next i s
  | error e => exact ⟨_, hostCommand_error hw⟩

theorem hostCommand_keeps_host {s t : State} {w : Word} (h : hostCommand exec s w = .next t) :
    t.pending = s.pending ∧ t.observed = s.observed ∧ t.basePage = s.basePage := by
  cases hw : decode w with
  | ok i => exact exec_keeps_host (hostCommand_ok hw ▸ h)
  | error e =>
    rw [hostCommand_error hw] at h
    cases h
    exact ⟨rfl, rfl, rfl⟩

theorem writeAt_keeps_host (s : State) (addr : Nat) (v : Word) :
    (writeAt s addr v).pending = s.pending ∧ (writeAt s addr v).basePage = s.basePage := by
  unfold writeAt
  split
  next r _ =>
    obtain ⟨hpend, -, hpage⟩ := writeReg_keeps_host s v r
    exact ⟨hpend, hpage⟩
  next => exact ⟨rfl, rfl⟩

/-- An event of the interface is answered, and takes itself from those to come and leaves the base
where it is (R30, R88). -/
theorem exists_step_next_of_legal {s : State} {e : HostEvent} {rest : List HostEvent}
    (hp : s.pending = e :: rest) (he : e.legal s.base = true) :
    ∃ t, step s = .next t ∧ t.pending = rest ∧ t.basePage = s.basePage := by
  cases e with
  | reset => exact ⟨_, step_reset hp, rfl, rfl⟩
  | read addr size => exact ⟨_, (step_read hp).trans (hostRead_legal he), rfl, rfl⟩
  | write addr size v =>
    rw [step_write hp, hostWrite_legal (s := s.setPending rest) he]
    split
    · obtain ⟨t, ht⟩ := exists_hostCommand_next (s.setPending rest) v
      obtain ⟨hpend, -, hpage⟩ := hostCommand_keeps_host ht
      exact ⟨t, ht, hpend, hpage⟩
    · obtain ⟨hpend, hpage⟩ := writeAt_keeps_host (s.setPending rest) addr v
      exact ⟨_, rfl, hpend, hpage⟩

theorem State.base_eq_of_basePage {s t : State} (h : t.basePage = s.basePage) : t.base = s.base :=
  congrArg (Config.windowBytes * ·) h

/-- A step of a dutiful host is answered, and the host stays dutiful (R44). -/
theorem exists_step_next_of_hostKeepsDuty {s : State} (h : s.hostKeepsDuty = true) :
    ∃ t, step s = .next t ∧ t.hostKeepsDuty = true ∧ t.pending = s.pending.tail := by
  cases hp : s.pending with
  | nil => exact ⟨s, step_idle hp, h, hp⟩
  | cons e rest =>
    rw [State.hostKeepsDuty, hp, List.all_cons, Bool.and_eq_true] at h
    obtain ⟨t, hstep, hpend, hpage⟩ := exists_step_next_of_legal hp h.1
    refine ⟨t, hstep, ?_, hpend⟩
    rw [State.hostKeepsDuty, hpend, State.base_eq_of_basePage hpage]
    exact h.2

/-! ### Runs -/

/-- A step that is answered is the first step of a run. -/
theorem core_run_succ (M : Host.Core) {s t : M.State} (n : Nat) (h : M.step s = .next t) :
    M.run (n + 1) s = M.run n t := by
  simp only [Host.Core.run, h]

theorem run_succ {s t : State} (n : Nat) (h : step s = .next t) :
    Host.Core.run Sys2Proof.core (n + 1) s = Host.Core.run Sys2Proof.core n t :=
  core_run_succ Sys2Proof.core n h

/-- Every register stands at a word-aligned offset of the window (R13). -/
theorem Reg.offset_in_window (r : Reg) : r.offset % 4 = 0 ∧ r.offset < 4096 := by
  cases r with
  | data k | raw k | stf k | slotId k | histCont k | histBits k => simp only [Reg.offset]; omega
  | _ => decide

/-- A register write of a host statement stores the value (R54). -/
theorem step_regWrite {s : State} {r : Reg} {v : Word} {rest : List HostEvent}
    (hrw : r.isRW = true) (hp : s.pending = regWrite s.base r v :: rest) :
    step s = .next (writeReg (s.setPending rest) v r) := by
  obtain ⟨ha, hw⟩ := r.offset_in_window
  rw [step_write_other ha hw (offset_ne_zero_of_rw hrw) hp]
  exact congrArg _ (writeAt_reg (s.setPending rest) v r)

/-! ### Loading a buffer

`wrbits` writes the words of a bank and a length register, one access each (R55). What a list of
writes to distinct registers leaves is read off register by register, whatever the bank. -/

/-- Register writes one after another. -/
def writeRegs (s : State) (ws : List (Reg × Word)) : State :=
  ws.foldl (fun s w => writeReg s w.2 w.1) s

@[simp] theorem writeRegs_cons (s : State) (w : Reg × Word) (ws : List (Reg × Word)) :
    writeRegs s (w :: ws) = writeRegs (writeReg s w.2 w.1) ws := rfl

theorem writeRegs_pending (s : State) (ws : List (Reg × Word)) :
    (writeRegs s ws).pending = s.pending := by
  induction ws generalizing s with
  | nil => rfl
  | cons w ws ih => rw [writeRegs_cons, ih, (writeReg_keeps_host s w.2 w.1).1]

theorem readReg_writeRegs_of_notMem (s : State) {r : Reg} {ws : List (Reg × Word)}
    (h : r ∉ ws.map Prod.fst) : readReg (writeRegs s ws) r = readReg s r := by
  induction ws generalizing s with
  | nil => rfl
  | cons w ws ih =>
    rw [List.map_cons, List.mem_cons, not_or] at h
    obtain ⟨hne, hrest⟩ := h
    rw [writeRegs_cons, ih _ hrest, readReg_writeReg_of_ne s _ hne]

/-- A register written once reads back its value, whatever is written before and after. -/
theorem readReg_writeRegs_of_mem (s : State) {r : Reg} {v : Word} {ws : List (Reg × Word)}
    (hdistinct : (ws.map Prod.fst).Nodup) (h : (r, v) ∈ ws) (hrw : r.isRW = true) :
    readReg (writeRegs s ws) r = v &&& r.fieldMask := by
  induction ws generalizing s with
  | nil => cases h
  | cons w ws ih =>
    obtain ⟨hfresh, hrest⟩ := List.nodup_cons.1 hdistinct
    obtain rfl | h := List.mem_cons.1 h
    · rw [writeRegs_cons, readReg_writeRegs_of_notMem _ hfresh, readReg_writeReg_same s v hrw]
    · exact ih _ hrest h

theorem writeReg_setPending (s : State) (es : List HostEvent) (v : Word) (r : Reg) :
    (writeReg s v r).setPending es = writeReg (s.setPending es) v r := by
  cases r <;> rfl

theorem writeReg_base (s : State) (v : Word) (r : Reg) : (writeReg s v r).base = s.base :=
  State.base_eq_of_basePage (writeReg_keeps_host s v r).2.2

/-- A run over the accesses of a list of register writes performs the list. -/
theorem run_regWrites {ws : List (Reg × Word)} (hrw : ∀ w ∈ ws, w.1.isRW = true) {s : State}
    {rest : List HostEvent}
    (hp : s.pending = ws.map (fun w => regWrite s.base w.1 w.2) ++ rest) :
    Host.Core.run Sys2Proof.core ws.length s = .next (writeRegs (s.setPending rest) ws) := by
  induction ws generalizing s with
  | nil =>
    have hs : s.setPending rest = s := congrArg s.setPending hp.symm
    rw [hs]
    rfl
  | cons w ws ih =>
    obtain ⟨hw, hws⟩ := List.forall_mem_cons.1 hrw
    rw [List.length_cons, run_succ _ (step_regWrite hw hp), ih hws, writeReg_setPending]
    · rfl
    · rw [writeReg_base]
      exact (writeReg_keeps_host _ w.2 w.1).1

/-- The register writes of `wrbits` (R55). -/
def BufName.writes (b : BufName) (x : Bits) : List (Reg × Word) :=
  b.words.zip (bufPut x).toList ++ [(b.len, BitVec.ofNat 32 x.length)]

theorem BufName.map_fst_writes (b : BufName) (x : Bits) :
    (b.writes x).map Prod.fst = b.words ++ [b.len] := by
  rw [writes, List.map_append, List.map_fst_zip]
  · rfl
  · cases b <;> simp [words]

theorem BufName.length_writes (b : BufName) (x : Bits) : (b.writes x).length = 6 := by
  cases b <;> simp [writes, words]

theorem BufName.isRW_of_mem_writes {b : BufName} {x : Bits} {w : Reg × Word}
    (h : w ∈ b.writes x) : w.1.isRW = true := by
  have hr : w.1 ∈ b.words ++ [b.len] := b.map_fst_writes x ▸ List.mem_map_of_mem h
  have hall : ∀ b : BufName, ∀ r ∈ b.words ++ [b.len], r.isRW = true := by rintro (_ | _) <;> decide
  exact hall b w.1 hr

/-- `wrbits` is accepted for strings that fit, and its accesses are the register writes. -/
theorem expand_wrbits {b : BufName} {x : Bits} {base : Nat} {es : List HostEvent}
    (h : (HostStmt.wrbits b x).expand base = some es) :
    x.length ≤ 160 ∧ es = (b.writes x).map fun w => regWrite base w.1 w.2 := by
  rw [HostStmt.expand] at h
  split at h
  next hfit =>
    cases h
    exact ⟨hfit, by simp [BufName.writes, regWrites]⟩
  next => cases h

theorem run_wrbits {b : BufName} {x : Bits} {s : State} {es rest : List HostEvent}
    (h : (HostStmt.wrbits b x).expand s.base = some es) (hp : s.pending = es ++ rest) :
    Host.Core.run Sys2Proof.core 6 s = .next (writeRegs (s.setPending rest) (b.writes x)) := by
  obtain ⟨-, rfl⟩ := expand_wrbits h
  rw [← b.length_writes x]
  exact run_regWrites (fun _ => BufName.isRW_of_mem_writes) hp

/-- A word of a bank and the value at its place are written together. -/
theorem mem_zip_bank {n : Nat} (f : Fin n → Reg) (b : Vector Word n) (k : Fin n) :
    (f k, b[k]) ∈ ((List.finRange n).map f).zip b.toList :=
  List.mem_iff_getElem.2 ⟨k.val, by simp, by simp⟩

section
variable (b : BufName) (x : Bits) (s : State)

theorem BufName.nodup_writes : ((b.writes x).map Prod.fst).Nodup := by
  rw [b.map_fst_writes]
  cases b <;> decide

/-- After `wrbits` the length register of the buffer holds the string's length. -/
theorem BufName.toNat_readReg_len (h : x.length ≤ 160) :
    (readReg (writeRegs s (b.writes x)) b.len).toNat = x.length := by
  rw [readReg_writeRegs_of_mem s (b.nodup_writes x) (v := BitVec.ofNat 32 x.length)]
  · have hmask : b.len.fieldMask = lowMask 8 := by cases b <;> rfl
    rw [hmask, lowMask, BitVec.toNat_and, BitVec.toNat_ofNat, BitVec.toNat_ofNat,
      Nat.mod_eq_of_lt (by omega), Nat.mod_eq_of_lt (by decide), Nat.and_two_pow_sub_one_eq_mod,
      Nat.mod_eq_of_lt (by omega)]
  · exact List.mem_append_right _ List.mem_cons_self
  · cases b <;> rfl

theorem writeRegs_raw : (writeRegs s (BufName.raw.writes x)).raw = bufPut x := by
  refine Vector.ext fun i hi => ?_
  exact (readReg_writeRegs_of_mem s (BufName.raw.nodup_writes x)
    (List.mem_append_left _ (mem_zip_bank Reg.raw (bufPut x) ⟨i, hi⟩)) rfl).trans
      BitVec.and_allOnes

theorem writeRegs_stf : (writeRegs s (BufName.stf.writes x)).stf = bufPut x := by
  refine Vector.ext fun i hi => ?_
  exact (readReg_writeRegs_of_mem s (BufName.stf.nodup_writes x)
    (List.mem_append_left _ (mem_zip_bank Reg.stf (bufPut x) ⟨i, hi⟩)) rfl).trans
      BitVec.and_allOnes

theorem writeRegs_rawLen (h : x.length ≤ 160) :
    (writeRegs s (BufName.raw.writes x)).rawLen.toNat = x.length :=
  (readReg_toNat _ .rawLen).symm.trans (BufName.raw.toNat_readReg_len x s h)

theorem writeRegs_stfLen (h : x.length ≤ 160) :
    (writeRegs s (BufName.stf.writes x)).stfLen.toNat = x.length :=
  (readReg_toNat _ .stfLen).symm.trans (BufName.stf.toNat_readReg_len x s h)

end

/-! ### The statements -/

/-- Settles O14, by induction on the steps: each is answered, takes its event and keeps the duty. -/
theorem dutifulHostNeverStops : Obligations.DutifulHostNeverStops := by
  intro n
  induction n with
  | zero => exact fun s h => ⟨s, rfl, h, rfl⟩
  | succ n ih =>
    intro s h
    obtain ⟨t, hstep, hduty, hpend⟩ := exists_step_next_of_hostKeepsDuty h
    obtain ⟨u, hrun, hkeeps, hdrop⟩ := ih t hduty
    exact ⟨u, (run_succ n hstep).trans hrun, hkeeps, by rw [hdrop, hpend, List.drop_tail]⟩

/-- Settles O7: the map finds a register at its own offset, and at no other aligned one. -/
theorem registerMapIsOneToOne : Obligations.RegisterMapIsOneToOne := fun _ r ha =>
  ⟨offset_of_regAt ha, fun h => h ▸ regAt_offset r⟩

/-- Settles O5: a CMD write is `hostCommand`, which runs the command the word spells. -/
theorem stepRunsDecodedCommand : Obligations.StepRunsDecodedCommand := fun _ _ _ _ hp hw =>
  (step_write_cmd hp).trans (hostCommand_ok hw)

/-- Settles O12: the first three statements are one access each; `wrbits` is six register writes,
after which the words and the length register hold the string. -/
theorem hostStatementsExpand : Obligations.HostStatementsExpand := by
  refine ⟨fun s i es rest he hp => ?command, fun s r v es rest hrw he hp => ?wr,
    fun s r es rest he hp => ?rd, fun s x es rest he hp => ?wrRaw, fun s x es rest he hp => ?wrStf⟩
  case command =>
    cases he
    exact stepRunsDecodedCommand s (encode i) i rest hp (decode_encode i)
  case wr =>
    cases he
    exact ⟨_, step_regWrite hrw hp, readReg_writeReg_same _ v hrw, (writeReg_keeps_host _ v r).1⟩
  case rd =>
    cases he
    obtain ⟨ha, hw⟩ := r.offset_in_window
    rw [step_read_window ha hw hp, readAt_reg]
    rfl
  case wrRaw =>
    obtain ⟨hfit, -⟩ := expand_wrbits he
    have hlen := writeRegs_rawLen x (s.setPending rest) hfit
    exact ⟨_, run_wrbits he hp, by rw [hlen, writeRegs_raw, bufGet_bufPut hfit], hlen,
      writeRegs_pending _ _⟩
  case wrStf =>
    obtain ⟨hfit, -⟩ := expand_wrbits he
    have hlen := writeRegs_stfLen x (s.setPending rest) hfit
    exact ⟨_, run_wrbits he hp, by rw [hlen, writeRegs_stf, bufGet_bufPut hfit], hlen,
      writeRegs_pending _ _⟩

end Sys2Proof.Machine

/-! ## Family other: lengths and runs of stuffed strings (R62, R65) -/

namespace Sys2Proof.Machine

/-! ### Runs -/

/-- The bits `b` a stuffed string can begin with go on the run the loop is in, which ends at five
(R62). -/
theorem length_add_nextRun_le {m run : Nat} {last b : Bool} {x : Bits} (hrun : run < 5)
    (h : List.replicate m b <+: stuffFrom run last x) : m + nextRun run last b ≤ 6 := by
  induction x generalizing m run last with
  | nil =>
    have hm : m = 0 := by simpa [stuffFrom] using h
    have := nextRun_le run last b
    omega
  | cons c x ih =>
    have hnext := nextRun_le run last b
    obtain _ | m := m
    · omega
    · by_cases hfull : nextRun run last c = Config.stuffRun
      · rw [stuffFrom_cons_of_full _ hfull, List.replicate_succ, List.cons_prefix_cons] at h
        obtain ⟨rfl, hrest⟩ := h
        obtain _ | m := m
        · exact (congrArg (1 + ·) hfull).le
        · rw [List.replicate_succ, List.cons_prefix_cons] at hrest
          exact absurd hrest.1 (by simp)
      · rw [stuffFrom_cons_of_not_full _ hfull, List.replicate_succ, List.cons_prefix_cons] at h
        obtain ⟨rfl, hrest⟩ := h
        have hle := ih (lt_of_le_of_ne (hnext.trans hrun) hfull) hrest
        rw [nextRun_of_continues (.inr rfl)] at hle
        omega

/-- A run of seven would begin at some bit written: at a bit of the string the loop's count allows
five, and at a stuff bit, which begins a run, one more (R65, C8). -/
theorem not_replicate_seven_infix_stuffFrom (b : Bool) {run : Nat} (hrun : run < 5) (last : Bool)
    (x : Bits) : ¬ List.replicate 7 b <:+: stuffFrom run last x := by
  induction x generalizing run last with
  | nil => simp [stuffFrom]
  | cons c x ih =>
    intro h
    have hprefix : ¬ List.replicate 7 b <+: stuffFrom run last (c :: x) := fun h => by
      have := length_add_nextRun_le hrun h
      omega
    by_cases hfull : nextRun run last c = Config.stuffRun
    · rw [stuffFrom_cons_of_full _ hfull] at h hprefix
      obtain h | h := List.infix_cons_iff.1 h
      · exact hprefix h
      obtain h | h := List.infix_cons_iff.1 h
      · have hsix : List.replicate 6 b <+: stuffFrom 0 c x :=
          (List.cons_prefix_cons.1 (List.replicate_succ ▸ h)).2
        have := length_add_nextRun_le (by decide) hsix
        rw [nextRun_of_continues (.inl rfl)] at this
        omega
      · exact ih (by decide) c h
    · rw [stuffFrom_cons_of_not_full _ hfull] at h hprefix
      obtain h | h := List.infix_cons_iff.1 h
      · exact hprefix h
      · exact ih (lt_of_le_of_ne ((nextRun_le run last c).trans hrun) hfull) c h

/-! ### Identifiers -/

/-- Stuffing never shortens, whatever state its loop is in: destuffing gives the string back. -/
theorem length_le_stuffFrom_length (run : Nat) (last : Bool) (x : Bits) :
    x.length ≤ (stuffFrom run last x).length := by
  have h := destuffFrom_length_le run last false (stuffFrom run last x)
  rwa [destuffFrom_stuffFrom] at h

/-- The strings of `n` bits that get `need` stuff bits from a state of the loop of R62, found bit by
bit; a branch ends where the bound on stuff bits (R65) leaves fewer than it needs. -/
def stringsStuffedBy : Nat → Nat → Bool → Nat → List Bits
  | 0, _, _, need => if need = 0 then [[]] else []
  | n + 1, run, last, need =>
    if (run + (n + 1)) / 5 < need then []
    else [false, true].flatMap fun b =>
      if nextRun run last b = Config.stuffRun then
        if need = 0 then [] else (stringsStuffedBy n 0 b (need - 1)).map (b :: ·)
      else (stringsStuffedBy n (nextRun run last b) b need).map (b :: ·)

theorem mem_stringsStuffedBy {run need : Nat} {last : Bool} {x : Bits}
    (h : (stuffFrom run last x).length = x.length + need) :
    x ∈ stringsStuffedBy x.length run last need := by
  induction x generalizing run last need with
  | nil => simp [stringsStuffedBy, show need = 0 by simpa [stuffFrom] using h.symm]
  | cons b x ih =>
    have hbound := stuffFrom_length_le run last (b :: x)
    rw [h, Nat.add_le_add_iff_left, List.length_cons] at hbound
    rw [List.length_cons, stringsStuffedBy, if_neg hbound.not_gt]
    refine List.mem_flatMap.2 ⟨b, by cases b <;> simp, ?_⟩
    split
    next hfull =>
      have hrest := length_le_stuffFrom_length 0 b x
      rw [stuffFrom_cons_of_full _ hfull] at h
      simp only [List.length_cons] at h
      rw [if_neg (by omega)]
      exact List.mem_map_of_mem (ih (by omega))
    next hfull =>
      rw [stuffFrom_cons_of_not_full _ hfull] at h
      simp only [List.length_cons] at h
      exact List.mem_map_of_mem (ih (by omega))

/-- The sixteen identifiers of R65. -/
def idsStuffedTo13 : List (BitVec 11) :=
  [0x000, 0x001, 0x01F, 0x020, 0x03E, 0x03F, 0x3E0, 0x3FF, 0x400, 0x41F, 0x7C0, 0x7C1, 0x7DF,
    0x7E0, 0x7FE, 0x7FF]

theorem idString_injective : Function.Injective idString := fun v w h => by
  have hval := congrArg intOf h
  rw [idString, idString, intOf_bitsW, intOf_bitsW, Nat.mod_eq_of_lt v.isLt,
    Nat.mod_eq_of_lt w.isLt] at hval
  exact BitVec.eq_of_toNat_eq hval

/-- Two stuff bits among the eleven of an identifier: the search finds the sixteen, in order. -/
theorem stuffBits_idString_length_eq_iff {v : BitVec 11} :
    (stuffBits (idString v)).length = 13 ↔ v ∈ idsStuffedTo13 := by
  constructor
  · intro h
    have hmem := mem_stringsStuffedBy (need := 2) (x := idString v)
      (by rwa [idString, bitsW_length])
    rw [idString, bitsW_length, ← idString,
      show stringsStuffedBy 11 0 false 2 = idsStuffedTo13.map idString by decide +kernel] at hmem
    exact (List.mem_map_of_injective idString_injective).1 hmem
  · have hall : idsStuffedTo13.map (fun v => (stuffBits (idString v)).length) =
        List.replicate 16 13 := by decide +kernel
    exact fun h => List.eq_of_mem_replicate (hall ▸ List.mem_map_of_mem h)

theorem le_stuffBits_idString_length (v : BitVec 11) : 11 ≤ (stuffBits (idString v)).length := by
  have h := length_le_stuffBits_length (idString v)
  rwa [idString, bitsW_length] at h

/-! ### The statements -/

/-- Settles O34: every run of a stuffed string begins at a bit of the string or at a stuff bit. -/
theorem stuffedRunsAtMostSix : Obligations.StuffedRunsAtMostSix :=
  ⟨fun x b => not_replicate_seven_infix_stuffFrom b (by decide) false x, by decide⟩

/-- Settles O33: the loops count the bits they add and drop, and a constant string reaches the
bound. -/
theorem stuffedLengthBounds : Obligations.StuffedLengthBounds :=
  ⟨fun x => ⟨length_le_stuffBits_length x, stuffBits_length_le x⟩, stuffBits_replicate_length,
    destuffBits_length_le⟩

/-- Settles O35: the bounds are R65's for 11 bits; a search that cuts hopeless branches finds the
sixteen identifiers. -/
theorem stuffedIdentifierLengths : Obligations.StuffedIdentifierLengths := fun v =>
  ⟨le_stuffBits_idString_length v, stuffBits_idString_length_le v,
    stuffBits_idString_length_eq_iff⟩

end Sys2Proof.Machine

/-! ## Family other: who survives an arbitration (R72 to R76) -/

namespace Sys2Proof.Machine

/-! ### The first difference of two strings -/

/-- `x` and `y` differ somewhere inside both, first where `x` has 0 and `y` has 1. -/
inductive FirstDiffBelow : Bits → Bits → Prop where
  | here (x y : Bits) : FirstDiffBelow (false :: x) (true :: y)
  | later (b : Bool) {x y : Bits} : FirstDiffBelow x y → FirstDiffBelow (b :: x) (b :: y)

theorem FirstDiffBelow.exists_position {x y : Bits} (h : FirstDiffBelow x y) :
    ∃ p, p < x.length ∧ p < y.length ∧ (∀ q, q < p → x[q]? = y[q]?) ∧
      x[p]? = some false ∧ y[p]? = some true := by
  induction h with
  | here x y => exact ⟨0, by simp, by simp, by simp, rfl, rfl⟩
  | later b _ ih =>
    obtain ⟨p, hx, hy, hsame, hzero, hone⟩ := ih
    refine ⟨p + 1, Nat.succ_lt_succ hx, Nat.succ_lt_succ hy, fun q hq => ?_, hzero, hone⟩
    cases q with
    | zero => rfl
    | succ q => exact hsame q (Nat.lt_of_succ_lt_succ hq)

theorem intOf_cons (b : Bool) (x : Bits) : intOf (b :: x) = b.toNat * 2 ^ x.length + intOf x := by
  simpa [intOf] using intOf_append [b] x

/-- Strings of one length are ordered as their values are. -/
theorem firstDiffBelow_of_intOf_lt {x y : Bits} (hlen : x.length = y.length)
    (h : intOf x < intOf y) : FirstDiffBelow x y := by
  induction x generalizing y with
  | nil =>
    rw [List.eq_nil_of_length_eq_zero hlen.symm] at h
    exact absurd h (lt_irrefl _)
  | cons a x ih =>
    obtain _ | ⟨b, y⟩ := y
    · cases hlen
    · have htail : x.length = y.length := Nat.succ.inj hlen
      have hx := intOf_lt x
      have hy := intOf_lt y
      rw [intOf_cons, intOf_cons, htail] at h
      rw [htail] at hx
      cases a <;> cases b
      · exact .later _ (ih htail (by simpa using h))
      · exact .here x y
      · simp only [Bool.toNat_true, Bool.toNat_false] at h
        omega
      · exact .later _ (ih htail (by simpa using h))

theorem firstDiffBelow_idString {v w : BitVec 11} (h : v.toNat < w.toNat) :
    FirstDiffBelow (idString v) (idString w) := by
  refine firstDiffBelow_of_intOf_lt (by simp [idString]) ?_
  rwa [idString, idString, intOf_bitsW, intOf_bitsW, Nat.mod_eq_of_lt v.isLt,
    Nat.mod_eq_of_lt w.isLt]

theorem exists_stuffFrom_cons (run : Nat) (last b : Bool) (rest : Bits) :
    ∃ z, stuffFrom run last (b :: rest) = b :: z := by
  unfold stuffFrom
  split <;> exact ⟨_, rfl⟩

/-- Stuffing keeps the first difference: up to it both loops are in one state and write the same
bits, and at it each writes its own bit (R74). -/
theorem firstDiffBelow_stuffFrom {x y : Bits} (h : FirstDiffBelow x y) (run : Nat) (last : Bool) :
    FirstDiffBelow (stuffFrom run last x) (stuffFrom run last y) := by
  induction h generalizing run last with
  | here x y =>
    obtain ⟨x', hx⟩ := exists_stuffFrom_cons run last false x
    obtain ⟨y', hy⟩ := exists_stuffFrom_cons run last true y
    rw [hx, hy]
    exact .here x' y'
  | later b _ ih =>
    by_cases hfull : nextRun run last b = Config.stuffRun
    · rw [stuffFrom_cons_of_full _ hfull, stuffFrom_cons_of_full _ hfull]
      exact .later b (.later _ (ih 0 b))
    · rw [stuffFrom_cons_of_not_full _ hfull, stuffFrom_cons_of_not_full _ hfull]
      exact .later b (ih _ b)

/-- In either mode a lower identifier has the lower key. -/
theorem firstDiffBelow_keyOf (sm : Bool) {v w : BitVec 11} (h : v.toNat < w.toNat) :
    FirstDiffBelow (keyOf sm v) (keyOf sm w) := by
  cases sm with
  | false => exact firstDiffBelow_idString h
  | true => exact firstDiffBelow_stuffFrom (firstDiffBelow_idString h) 0 false

/-! ### The value of a key up to a position -/

/-- The value of the first `p` bits a key drives, recessive past its end (R72). -/
def paddedValue (x : Bits) (p : Nat) : Nat := intOf ((List.range p).map fun i => x.getD i true)

theorem paddedValue_succ (x : Bits) (p : Nat) :
    paddedValue x (p + 1) = 2 * paddedValue x p + (x.getD p true).toNat := by
  rw [paddedValue, List.range_succ, List.map_append]
  exact intOf_concat _ _

theorem paddedValue_cons_succ (b : Bool) (x : Bits) (p : Nat) :
    paddedValue (b :: x) (p + 1) = b.toNat * 2 ^ p + paddedValue x p := by
  rw [paddedValue, List.range_succ_eq_map, List.map_cons, intOf_cons, List.map_map]
  simp [paddedValue, Function.comp_def]

theorem paddedValue_lt (x : Bits) (p : Nat) : paddedValue x p < 2 ^ p := by
  simpa [paddedValue] using intOf_lt ((List.range p).map fun i => x.getD i true)

/-- Once the width covers the lower key, it covers the first difference, which decides. -/
theorem FirstDiffBelow.paddedValue_lt {x y : Bits} (h : FirstDiffBelow x y) {p : Nat}
    (hp : x.length ≤ p) : paddedValue x p < paddedValue y p := by
  induction h generalizing p with
  | here x y =>
    obtain _ | p := p
    · cases hp
    · have hx := Machine.paddedValue_lt x p
      rw [paddedValue_cons_succ, paddedValue_cons_succ, Bool.toNat_true, Bool.toNat_false]
      omega
  | later b _ ih =>
    obtain _ | p := p
    · cases hp
    · rw [paddedValue_cons_succ, paddedValue_cons_succ]
      exact Nat.add_lt_add_left (ih (Nat.le_of_succ_le_succ hp)) _

/-! ### The contender sets of a reduction, as sets -/

section
variable {keys : List Bits} {c0 : Word}

theorem mem_contendersAt_succ {p s : Nat} :
    s ∈ slotsOf (contendersAt keys c0 (p + 1)) ↔
      s ∈ slotsOf (contendersAt keys c0 p) ∧
        (keyBit keys p s = false ∨
          ∀ t ∈ slotsOf (contendersAt keys c0 p), keyBit keys p t = true) :=
  mem_slotsOf_dominant.trans mem_runningGroup

/-- A demoted slot does not come back (R76). -/
theorem mem_contendersAt_of_le {p q s : Nat} (hpq : p ≤ q)
    (h : s ∈ slotsOf (contendersAt keys c0 q)) : s ∈ slotsOf (contendersAt keys c0 p) := by
  induction q, hpq using Nat.le_induction with
  | base => exact h
  | succ q _ ih => exact ih (mem_contendersAt_succ.1 h).1

/-- The bits driven at a position are bits of the contenders' keys. -/
theorem drivenBits_contendersAt_congr {keys' : List Bits}
    (h : ∀ s ∈ slotsOf c0, keys.getD s [] = keys'.getD s []) (p : Nat) :
    drivenBits keys p (contendersAt keys' c0 p) = drivenBits keys' p (contendersAt keys' c0 p) := by
  refine congrArg maskOf (List.filter_congr fun s hs => ?_)
  rw [keyBit, keyBit, h s (mem_contendersAt_of_le (Nat.zero_le p) hs)]

/-- The contenders left before position `p` are those whose first `p` key bits have the lowest
value (R74 item 2). -/
theorem mem_contendersAt_iff {p s : Nat} :
    s ∈ slotsOf (contendersAt keys c0 p) ↔
      s ∈ slotsOf c0 ∧
        ∀ t ∈ slotsOf c0, paddedValue (keys.getD s []) p ≤ paddedValue (keys.getD t []) p := by
  induction p generalizing s with
  | zero => simp [contendersAt, paddedValue]
  | succ p ih =>
    have hbit (t : Nat) : ((keys.getD t []).getD p true).toNat ≤ 1 := Bool.toNat_le _
    simp only [mem_contendersAt_succ, paddedValue_succ]
    constructor
    · rintro ⟨hs, hdrive⟩
      obtain ⟨hcont, hmin⟩ := ih.1 hs
      refine ⟨hcont, fun t ht => ?_⟩
      obtain hlt | heq := (hmin t ht).lt_or_eq
      · have := hbit s
        omega
      · have htp := ih.2 ⟨ht, fun u hu => heq ▸ hmin u hu⟩
        have hle : (keyBit keys p s).toNat ≤ (keyBit keys p t).toNat := by
          obtain hzero | hone := hdrive
          · rw [hzero]; exact Nat.zero_le _
          · rw [hone t htp]; exact Bool.toNat_le _
        rw [keyBit, keyBit] at hle
        omega
    · rintro ⟨hcont, hmin⟩
      have hs := ih.2 ⟨hcont, fun t ht => by have := hmin t ht; have := hbit t; omega⟩
      refine ⟨hs, ?_⟩
      cases hb : keyBit keys p s with
      | false => exact .inl rfl
      | true =>
        refine .inr fun t ht => ?_
        obtain ⟨htc, htmin⟩ := ih.1 ht
        have hst := hmin t htc
        have hts := htmin s hcont
        rw [keyBit] at hb
        rw [hb, Bool.toNat_true] at hst
        cases hbt : keyBit keys p t with
        | true => rfl
        | false =>
          rw [keyBit] at hbt
          rw [hbt, Bool.toNat_false] at hst
          omega

/-- A reduction sees no key but the contenders' (R76 item 6). -/
theorem contendersAt_congr {keys' : List Bits}
    (h : ∀ s ∈ slotsOf c0, keys.getD s [] = keys'.getD s []) (p : Nat) :
    contendersAt keys c0 p = contendersAt keys' c0 p := by
  induction p with
  | zero => rfl
  | succ p ih => rw [contendersAt, contendersAt, ih, drivenBits_contendersAt_congr h]

end

/-! ### Survivors -/

section
variable {sm : Bool} {s : State}

theorem keyOf_length_le_arbW {k : Fin 32} (h : s.contMask.getLsbD k = true) :
    (keyOf sm s.slotId[k]).length ≤ arbW sm s := by
  cases sm with
  | false => exact (bitsW_length 11 _).le
  | true => exact key_length_le_arbW h

/-- The survivors of either mode are the contenders with the lowest identifier: a lower one among
the contenders has the lower key, and the width covers it (R74 item 2). -/
theorem survivors_getLsbD_iff {k : Fin 32} :
    (survivors sm s).getLsbD k = true ↔ s.contMask.getLsbD k = true ∧
      ∀ j : Fin 32, s.contMask.getLsbD j = true → s.slotId[k].toNat ≤ s.slotId[j].toNat := by
  have hlower {j k : Fin 32} (hj : s.contMask.getLsbD j = true)
      (hjk : s.slotId[j].toNat < s.slotId[k].toNat) :
      paddedValue (keyOf sm s.slotId[j]) (arbW sm s) <
        paddedValue (keyOf sm s.slotId[k]) (arbW sm s) :=
    (firstDiffBelow_keyOf sm hjk).paddedValue_lt (keyOf_length_le_arbW hj)
  have hmem := mem_contendersAt_iff (keys := slotKeys sm s) (c0 := s.contMask) (p := arbW sm s)
    (s := k)
  simp only [mem_slotsOf, k.isLt, true_and, and_imp, slotKeys_getD] at hmem
  rw [survivors, hmem]
  refine and_congr_right fun hk => ⟨fun hmin j hj => ?_, fun hmin j hj32 hj => ?_⟩
  · have hle := hmin j j.isLt hj
    rw [slotKeys_getD] at hle
    exact not_lt.1 fun hlt => (hlower hj hlt).not_ge hle
  · rw [show j = (⟨j, hj32⟩ : Fin 32).val from rfl, slotKeys_getD]
    obtain hlt | heq := (hmin ⟨j, hj32⟩ hj).lt_or_eq
    · exact (hlower hk hlt).le
    · rw [BitVec.eq_of_toNat_eq heq]

/-- Both modes keep the same survivors (R74 item 3). -/
theorem survivors_stuffed_eq_raw (s : State) : survivors true s = survivors false s := by
  apply BitVec.eq_of_getLsbD_eq
  intro i hi
  rw [Bool.eq_iff_iff]
  exact (survivors_getLsbD_iff (k := ⟨i, hi⟩)).trans (survivors_getLsbD_iff (k := ⟨i, hi⟩)).symm

/-- A slot is a survivor or a loser by its own two bits. -/
theorem survivors_or_contMask (sm : Bool) (s : State) :
    survivors sm s ||| (s.contMask &&& ~~~survivors sm s) = s.contMask := by
  apply BitVec.eq_of_getLsbD_eq
  intro i hi
  have hsub := (survivors_getLsbD_iff (sm := sm) (s := s) (k := ⟨i, hi⟩)).1
  rw [BitVec.getLsbD_or, BitVec.getLsbD_and, BitVec.getLsbD_not, decide_eq_true hi]
  cases hb : (survivors sm s).getLsbD i with
  | false => simp
  | true => simp [(hsub hb).1]

theorem survivors_and_losers (sm : Bool) (s : State) :
    survivors sm s &&& (s.contMask &&& ~~~survivors sm s) = 0 := by
  rw [BitVec.and_comm, BitVec.and_assoc, BitVec.and_comm (~~~_), BitVec.and_not_self]
  exact BitVec.and_zero

theorem survivors_of_contMask_eq_zero (h : s.contMask = 0) : survivors sm s = 0 := by
  apply BitVec.eq_of_getLsbD_eq
  intro i hi
  have hsub := (survivors_getLsbD_iff (sm := sm) (s := s) (k := ⟨i, hi⟩)).1
  rw [h] at hsub
  exact (Bool.eq_false_iff.2 fun hb => by simpa using (hsub hb).1).trans BitVec.getLsbD_zero.symm

end

/-! ### The outcome of ARBITRATE -/

section
variable {sm : Bool} {s t : State}

theorem execArbitrate_next_arbitrated (h : execArbitrate sm s = .next t) :
    (s.contMask = 0 ∧
      t = ((s.setArb 0 0 0 0).setHist (historyOf []) (historyOf [])).setStatus .nothing) ∨
    (s.contMask ≠ 0 ∧ t = arbitrated sm s) := by
  by_cases hcont : s.contMask = 0
  · rw [execArbitrate_of_contMask_eq_zero hcont] at h
    cases h
    exact .inl ⟨hcont, rfl⟩
  · rw [execArbitrate_of_contMask_ne_zero hcont] at h
    cases h
    exact .inr ⟨hcont, rfl⟩

/-- Survivors and losers are named alike with and without contenders. -/
theorem execArbitrate_masks (h : execArbitrate sm s = .next t) :
    t.survMask = survivors sm s ∧ t.loseMask = s.contMask &&& ~~~survivors sm s := by
  obtain ⟨hcont, rfl⟩ | ⟨-, rfl⟩ := execArbitrate_next_arbitrated h
  · rw [survivors_of_contMask_eq_zero hcont, hcont]
    exact ⟨rfl, rfl⟩
  · exact ⟨rfl, rfl⟩

/-- The set a position leaves: the next history entry, after the last position the survivors. -/
theorem arbitrated_next_set (hcont : s.contMask ≠ 0) {p : Nat} (hp : p < arbW sm s) :
    (if p + 1 < arbW sm s then (arbitrated sm s).contAt (p + 1) else (arbitrated sm s).survMask) =
      contendersAt (slotKeys sm s) s.contMask (p + 1) := by
  split
  next hlt => rw [arbitrated_contAt hcont, if_pos hlt]
  next hge => rw [show p + 1 = arbW sm s by omega]; rfl

end

/-- A contender is out at the end exactly when some position demoted it (R76 item 5). -/
theorem demoted_iff {keys : List Bits} {c0 : Word} {n s : Nat} :
    s ∈ slotsOf c0 ∧ s ∉ slotsOf (contendersAt keys c0 n) ↔
      ∃ p < n, s ∈ slotsOf (contendersAt keys c0 p) ∧
        s ∉ slotsOf (contendersAt keys c0 (p + 1)) := by
  constructor
  · rintro ⟨h, hn⟩
    obtain ⟨p, hin, hout⟩ := Nat.exists_not_and_succ_of_not_zero_of_exists
      (p := fun p => s ∉ slotsOf (contendersAt keys c0 p)) (not_not.2 h) ⟨n, hn⟩
    rw [not_not] at hin
    exact ⟨p, lt_of_not_ge fun hle => hn (mem_contendersAt_of_le hle hin), hin, hout⟩
  · rintro ⟨p, hp, hin, hout⟩
    exact ⟨mem_contendersAt_of_le (Nat.zero_le p) hin,
      fun hn => hout (mem_contendersAt_of_le hp hn)⟩

/-! ### What an arbitration depends on -/

section
variable {sm : Bool} {s u : State} (hcont : u.contMask = s.contMask)
  (hids : ∀ k : Fin 32, s.contMask.getLsbD k = true → u.slotId[k] = s.slotId[k])
include hids

theorem slotKeys_getD_congr :
    ∀ k ∈ slotsOf s.contMask, (slotKeys sm u).getD k [] = (slotKeys sm s).getD k [] := by
  intro k hk
  obtain ⟨hlt, hbit⟩ := mem_slotsOf.1 hk
  rw [show k = (⟨k, hlt⟩ : Fin 32).val from rfl, slotKeys_getD, slotKeys_getD, hids _ hbit]

include hcont

theorem arbW_congr : arbW sm u = arbW sm s := by
  rw [arbW, arbW, arbitrationWidth, arbitrationWidth, hcont,
    List.map_congr_left fun k hk => congrArg List.length (slotKeys_getD_congr (sm := sm) hids k hk)]

theorem survivors_congr : survivors sm u = survivors sm s := by
  rw [survivors, survivors, arbW_congr hcont hids, hcont,
    contendersAt_congr (slotKeys_getD_congr hids)]

theorem arbHistory_congr : arbHistory sm u = arbHistory sm s := by
  rw [arbHistory, arbHistory, arbW_congr hcont hids, hcont]
  refine List.map_congr_left fun p _ => ?_
  rw [historyEntry, historyEntry, contendersAt_congr (slotKeys_getD_congr hids),
    drivenBits_contendersAt_congr (slotKeys_getD_congr hids)]

end

/-! ### The statements -/

/-- Settles O47: the wired-AND rule keeps the contenders with the lowest key so far, and keys are
ordered as identifiers are. -/
theorem lowestIdentifiersSurvive : Obligations.LowestIdentifiersSurvive := by
  intro sm s t h k
  rw [(execArbitrate_masks h).1]
  exact survivors_getLsbD_iff

/-- Settles O48: the survivors are the same in both modes, and the losers, the winner and STATUS are
read off them. -/
theorem stuffedModeNamesSameWinner : Obligations.StuffedModeNamesSameWinner := by
  intro s t u ht hu
  obtain ⟨hzero, rfl⟩ | ⟨hcont, rfl⟩ := execArbitrate_next_arbitrated ht
  · obtain ⟨-, rfl⟩ | ⟨hcont, -⟩ := execArbitrate_next_arbitrated hu
    · exact ⟨rfl, rfl, rfl, rfl⟩
    · exact absurd hzero hcont
  · obtain ⟨hzero, -⟩ | ⟨-, rfl⟩ := execArbitrate_next_arbitrated hu
    · exact absurd hzero hcont
    · have hsurv := survivors_stuffed_eq_raw s
      exact ⟨hsurv, congrArg (s.contMask &&& ~~~·) hsurv,
        congrArg (BitVec.ofNat 5 <| lowest ·) hsurv,
        congrArg (Status.ofTie <| decide <| 1 < popcount ·) hsurv⟩

/-- Settles O49: an identifier's string and so its stuffed string has its first difference from a
higher one's inside both. -/
theorem stuffingKeepsIdentifierOrder : Obligations.StuffingKeepsIdentifierOrder := fun _ _ h =>
  (firstDiffBelow_keyOf true h).exists_position

/-- Settles O50: the width is 11 raw and the length of some contender's longest key stuffed. -/
theorem arbitrationWidthBounds : Obligations.ArbitrationWidthBounds := by
  intro sm s t hcont h
  obtain ⟨hzero, -⟩ | ⟨-, rfl⟩ := execArbitrate_next_arbitrated h
  · exact absurd hzero hcont
  rw [arbitrated_arbWidth hcont]
  refine ⟨by rintro rfl; rfl, ?_⟩
  rintro rfl
  refine ⟨le_arbW true hcont, arbW_le true hcont, fun h13 => ?_, ?_⟩
  · obtain ⟨k, hk, hlen⟩ := exists_key_length_eq_arbW hcont
    exact ⟨k, hk, stuffBits_idString_length_eq_iff.1 (hlen.symm.trans h13)⟩
  · rintro ⟨k, hk, hmem⟩
    have hlen := key_length_le_arbW hk
    rw [keyOf, if_pos rfl, stuffBits_idString_length_eq_iff.2 hmem] at hlen
    exact (arbW_le true hcont).antisymm hlen

/-- Settles O51: the width, the history and the survivors depend on the contenders' keys only. -/
theorem onlyContendersDecide : Obligations.OnlyContendersDecide := by
  intro sm s u t hcont hids h
  obtain ⟨hzero, rfl⟩ | ⟨hne, rfl⟩ := execArbitrate_next_arbitrated h
  · exact execArbitrate_of_contMask_eq_zero (hcont.trans hzero)
  · refine (execArbitrate_of_contMask_ne_zero (hcont ▸ hne)).trans ?_
    rw [arbitrated, arbW_congr hcont hids, survivors_congr hcont hids, arbHistory_congr hcont hids,
      congrArg (· &&& ~~~survivors sm s) hcont]
    rfl

/-- Settles O52: survivors are contenders and losers the others, and the contender sets shrink from
CONT_MASK to the survivors. -/
theorem losersAreThoseDemoted : Obligations.LosersAreThoseDemoted := by
  intro sm s t h
  obtain ⟨hsurv, hlose⟩ := execArbitrate_masks h
  refine ⟨?_, ?_, fun k => ?_⟩
  · rw [hsurv, hlose, survivors_and_losers]
  · rw [hsurv, hlose, survivors_or_contMask]
  obtain ⟨hzero, rfl⟩ | ⟨hcont, rfl⟩ := execArbitrate_next_arbitrated h
  · simp
  have hmem (m : Word) : k.val ∈ slotsOf m ↔ m.getLsbD k = true := by simp [mem_slotsOf]
  have hloser : (s.contMask &&& ~~~survivors sm s).getLsbD k = true ↔
      k.val ∈ slotsOf s.contMask ∧ k.val ∉ slotsOf (survivors sm s) := by
    simp [hmem]
  rw [hlose, hloser, survivors, demoted_iff, arbitrated_arbWidth hcont]
  refine exists_congr fun p => and_congr_right fun hp => ?_
  rw [arbitrated_contAt hcont, if_pos hp, arbitrated_next_set hcont hp, hmem, hmem,
    Bool.not_eq_true]

end Sys2Proof.Machine

/-! ## Family other: the CRC as arithmetic over GF(2) (R56 to R58) -/

namespace Sys2Proof.Machine

/-! ### Polynomials of bit strings -/

open Polynomial in
theorem polyOf_concat (m : Bits) (b : Bool) :
    polyOf (m ++ [b]) = polyOf m * X + if b then 1 else 0 := by
  simp [polyOf]

open Polynomial in
/-- The leftmost bit is the coefficient of the highest power (R58 item 1). -/
theorem polyOf_cons (b : Bool) (m : Bits) :
    polyOf (b :: m) = (if b then X ^ m.length else 0) + polyOf m := by
  induction m using List.reverseRecOn with
  | nil => cases b <;> simp [polyOf]
  | append_singleton m c ih =>
    rw [← List.cons_append, polyOf_concat, ih, polyOf_concat]
    cases b <;> simp [pow_succ]
    ring

open Polynomial in
theorem polyOf_bitsW_succ (w v : Nat) :
    polyOf (bitsW (w + 1) v) = (if v.testBit w then X ^ w else 0) + polyOf (bitsW w v) := by
  rw [bitsW_succ, polyOf_cons, bitsW_length]

open Polynomial in
/-- Addition over GF(2) is XOR. -/
theorem polyOf_bitsW_xor (w u v : Nat) :
    polyOf (bitsW w (u ^^^ v)) = polyOf (bitsW w u) + polyOf (bitsW w v) := by
  induction w with
  | zero => simp [bitsW, polyOf]
  | succ w ih =>
    rw [polyOf_bitsW_succ, polyOf_bitsW_succ, polyOf_bitsW_succ, ih, Nat.testBit_xor]
    cases u.testBit w <;> cases v.testBit w <;>
      simp only [Bool.xor_false, Bool.xor_true, Bool.not_true, Bool.not_false, if_true, if_false,
        Bool.false_eq_true]
    · ring
    · ring
    · ring
    · linear_combination -(X ^ w) * CharTwo.two_eq_zero (R := (ZMod 2)[X])

theorem two_mul_testBit_succ (v i : Nat) : (2 * v).testBit (i + 1) = v.testBit i := by
  rw [Nat.testBit_succ, Nat.mul_div_cancel_left _ (by decide)]

theorem bitsW_succ_two_mul (w v : Nat) : bitsW (w + 1) (2 * v) = bitsW w v ++ [false] := by
  induction w with
  | zero => simp [bitsW]
  | succ w ih => rw [bitsW_succ, ih, bitsW_succ, two_mul_testBit_succ, List.cons_append]

open Polynomial in
/-- A shift of the register multiplies by `x`; the bit shifted out is the coefficient of x^16. -/
theorem polyOf_shiftLeft (r : BitVec 16) :
    polyOf (bitsW 16 r.toNat) * X =
      (if r.getLsbD 15 then X ^ 16 else 0) + polyOf (bitsW 16 (r <<< 1).toNat) := by
  have hlow : bitsW 16 (r <<< 1).toNat = bitsW 16 (2 * r.toNat) := bitsW_congr fun i hi => by
    rw [BitVec.toNat_shiftLeft, Nat.testBit_mod_two_pow, decide_eq_true hi, Bool.true_and,
      Nat.shiftLeft_eq, pow_one, Nat.mul_comm]
  have hmul := polyOf_concat (bitsW 16 r.toNat) false
  rw [← bitsW_succ_two_mul, polyOf_bitsW_succ, two_mul_testBit_succ, BitVec.testBit_toNat] at hmul
  rw [hlow, hmul]
  simp

/-! ### The register as a remainder -/

open Polynomial in
/-- The polynomial `G(x) = x^16 + POLY(x)` (R58 item 1). -/
noncomputable def generatorPoly (poly : BitVec 16) : (ZMod 2)[X] :=
  X ^ 16 + polyOf (bitsW 16 poly.toNat)

open Polynomial in
/-- A register step multiplies by `x`, adds the message bit at x^16, and takes `G` off when a bit
would stand there (R57). -/
theorem polyOf_crcRegisterStep (poly r : BitVec 16) (b : Bool) :
    polyOf (bitsW 16 r.toNat) * X + (if b then X ^ 16 else 0) =
      (if r.getLsbD 15 ^^ b then generatorPoly poly else 0)
        + polyOf (bitsW 16 (crcRegisterStep poly r b).toNat) := by
  have two : (2 : (ZMod 2)[X]) = 0 := CharTwo.two_eq_zero
  rw [polyOf_shiftLeft, crcRegisterStep, generatorPoly]
  cases r.getLsbD 15 <;> cases b <;>
    simp only [Bool.xor_false, Bool.xor_true, Bool.not_true, Bool.not_false, if_true, if_false,
      Bool.false_eq_true, BitVec.toNat_xor, polyOf_bitsW_xor]
  · ring
  · linear_combination -polyOf (bitsW 16 poly.toNat) * two
  · linear_combination -polyOf (bitsW 16 poly.toNat) * two
  · linear_combination X ^ 16 * two

open Polynomial in
/-- The register holds the remainder of the message read so far (R58 item 1). -/
theorem exists_quotient_crcRegister (poly : BitVec 16) (m : Bits) :
    ∃ q : (ZMod 2)[X], polyOf m * X ^ 16 =
      q * generatorPoly poly + polyOf (bitsW 16 (crcRegister m poly).toNat) := by
  induction m using List.reverseRecOn with
  | nil => exact ⟨0, by simp [polyOf, crcRegister, bitsW]⟩
  | append_singleton m b ih =>
    obtain ⟨q, hq⟩ := ih
    have hstep := polyOf_crcRegisterStep poly (crcRegister m poly) b
    have hrun : crcRegister (m ++ [b]) poly = crcRegisterStep poly (crcRegister m poly) b := by
      simp [crcRegister]
    refine ⟨q * X + if (crcRegister m poly).getLsbD 15 ^^ b then 1 else 0, ?_⟩
    rw [polyOf_concat, hrun]
    calc (polyOf m * X + if b then 1 else 0) * X ^ 16
        = polyOf m * X ^ 16 * X + if b then X ^ 16 else 0 := by split <;> ring
      _ = q * X * generatorPoly poly + (polyOf (bitsW 16 (crcRegister m poly).toNat) * X
            + if b then X ^ 16 else 0) := by rw [hq]; ring
      _ = _ := by rw [hstep]; split <;> ring

/-! ### The register is linear -/

/-- The register step as one XOR: POLY is added when the feedback is 1 (R57). -/
theorem crcRegisterStep_eq (poly r : BitVec 16) (b : Bool) :
    crcRegisterStep poly r b = r <<< 1 ^^^ if r.getLsbD 15 ^^ b then poly else 0 := by
  rw [crcRegisterStep]
  split
  · rfl
  · exact BitVec.xor_zero.symm

theorem crcRegisterStep_xor (poly r q : BitVec 16) (a b : Bool) :
    crcRegisterStep poly (r ^^^ q) (a ^^ b) =
      crcRegisterStep poly r a ^^^ crcRegisterStep poly q b := by
  have hite (x y : Bool) : (if x ^^ y then poly else 0) =
      (if x then poly else 0) ^^^ if y then poly else 0 := by
    cases x <;> cases y <;> simp
  have hfeedback : ((r ^^^ q).getLsbD 15 ^^ (a ^^ b)) =
      ((r.getLsbD 15 ^^ a) ^^ (q.getLsbD 15 ^^ b)) := by
    rw [BitVec.getLsbD_xor, Bool.xor_assoc, Bool.xor_assoc, Bool.xor_left_comm (q.getLsbD 15)]
  rw [crcRegisterStep_eq, crcRegisterStep_eq, crcRegisterStep_eq, hfeedback, hite,
    BitVec.shiftLeft_xor_distrib]
  ac_rfl

theorem foldl_crcRegisterStep_xor (poly : BitVec 16) {a b : Bits} (hlen : a.length = b.length)
    (r q : BitVec 16) :
    (List.zipWith Bool.xor a b).foldl (crcRegisterStep poly) (r ^^^ q) =
      a.foldl (crcRegisterStep poly) r ^^^ b.foldl (crcRegisterStep poly) q := by
  induction a generalizing b r q with
  | nil => rw [List.eq_nil_of_length_eq_zero hlen.symm]; rfl
  | cons x a ih =>
    obtain _ | ⟨y, b⟩ := b
    · cases hlen
    · rw [List.zipWith_cons_cons, List.foldl_cons, List.foldl_cons, List.foldl_cons,
        crcRegisterStep_xor, ih (Nat.succ.inj hlen)]

/-- The register after `n` appended zero bits (R58 item 7). -/
def zeroBits (poly : BitVec 16) (n : Nat) (r : BitVec 16) : BitVec 16 :=
  (List.replicate n false).foldl (crcRegisterStep poly) r

theorem zeroBits_xor (poly : BitVec 16) (n : Nat) (r q : BitVec 16) :
    zeroBits poly n (r ^^^ q) = zeroBits poly n r ^^^ zeroBits poly n q := by
  have h := foldl_crcRegisterStep_xor poly (a := List.replicate n false)
    (b := List.replicate n false) rfl r q
  rwa [List.zipWith_replicate'] at h

/-- A register value that a zero bit leaves stays for any number of them. -/
theorem zeroBits_of_fixed {poly r : BitVec 16} (h : crcRegisterStep poly r false = r) (n : Nat) :
    zeroBits poly n r = r := by
  induction n with
  | zero => rfl
  | succ n ih => rwa [zeroBits, List.replicate_succ, List.foldl_cons, h]

theorem zeroBits_zero (poly : BitVec 16) (n : Nat) : zeroBits poly n 0 = 0 :=
  zeroBits_of_fixed (by simp [crcRegisterStep_eq]) n

theorem crc16_append_zeros (m : Bits) (n : Nat) (poly : BitVec 16) :
    crc16 (m ++ List.replicate n false) poly = zeroBits poly n (crc16 m poly) := by
  rw [crc16_eq_crcRegister, crc16_eq_crcRegister, crcRegister, List.foldl_append]
  rfl

theorem crc16_zeros_append (k : Nat) (m : Bits) (poly : BitVec 16) :
    crc16 (List.replicate k false ++ m) poly = crc16 m poly := by
  rw [crc16_eq_crcRegister, crc16_eq_crcRegister, crcRegister, List.foldl_append, ← zeroBits,
    zeroBits_zero]
  rfl

/-! ### Which values appended zero bytes leave, with POLY = 0x1021

A value that `8 k` zero bits leave is a root of T^(8k) + 1 for the step T. With POLY = 0x1021 that
polynomial times a cofactor is T + 1 modulo G, so one zero bit leaves the value too. Both sides are
linear, so the product is checked on the sixteen basis vectors. -/

/-- Linear functions that agree on the basis vectors are equal. -/
theorem eq_of_xor_linear {f g : BitVec 16 → BitVec 16} (hf : ∀ a b, f (a ^^^ b) = f a ^^^ f b)
    (hg : ∀ a b, g (a ^^^ b) = g a ^^^ g b)
    (h : ∀ i : Fin 16, f (BitVec.twoPow 16 i) = g (BitVec.twoPow 16 i)) (r : BitVec 16) :
    f r = g r := by
  have hzero {f : BitVec 16 → BitVec 16} (hf : ∀ a b, f (a ^^^ b) = f a ^^^ f b) : f 0 = 0 := by
    simpa using hf 0 0
  have hbelow (n : Nat) (hn : n ≤ 16) (r : BitVec 16) (hr : ∀ i, n ≤ i → r.getLsbD i = false) :
      f r = g r := by
    induction n generalizing r with
    | zero =>
      have hr0 : r = 0 := BitVec.eq_of_getLsbD_eq fun i _ => by simpa using hr i
      rw [hr0, hzero hf, hzero hg]
    | succ n ih =>
      cases hb : r.getLsbD n with
      | false =>
        refine ih (by omega) r fun i hi => ?_
        obtain rfl | hlt := hi.eq_or_lt
        · exact hb
        · exact hr i hlt
      | true =>
        have hrest := ih (by omega) (r ^^^ BitVec.twoPow 16 n) fun i hi => by
          rw [BitVec.getLsbD_xor, BitVec.getLsbD_twoPow]
          obtain rfl | hlt := hi.eq_or_lt
          · simp [hb]; omega
          · simp [hr i hlt]; omega
        rw [hf, hg, h ⟨n, by omega⟩] at hrest
        exact (BitVec.xor_left_inj _).1 hrest
  exact hbelow 16 le_rfl r fun i hi => BitVec.getLsbD_of_ge r i hi

/-- The polynomial in the step T with coefficients `cs`, highest first, applied to `y`. -/
def stepPoly (cs : Bits) (y : BitVec 16) : BitVec 16 :=
  cs.foldl (fun acc c => crcRegisterStep 0x1021 acc false ^^^ if c then y else 0) 0

theorem crcRegisterStep_false_xor (poly r q : BitVec 16) :
    crcRegisterStep poly (r ^^^ q) false =
      crcRegisterStep poly r false ^^^ crcRegisterStep poly q false :=
  crcRegisterStep_xor poly r q false false

theorem stepPoly_concat (cs : Bits) (c : Bool) (y : BitVec 16) :
    stepPoly (cs ++ [c]) y =
      crcRegisterStep 0x1021 (stepPoly cs y) false ^^^ if c then y else 0 := by
  simp [stepPoly]

theorem stepPoly_xor (cs : Bits) (y z : BitVec 16) :
    stepPoly cs (y ^^^ z) = stepPoly cs y ^^^ stepPoly cs z := by
  induction cs using List.reverseRecOn with
  | nil => simp [stepPoly]
  | append_singleton cs c ih =>
    rw [stepPoly_concat, ih, crcRegisterStep_false_xor, stepPoly_concat, stepPoly_concat]
    cases c
    · simp
    · simp only [if_true]
      ac_rfl

/-- Cofactors for 1 to 8 zero bytes, the coefficient of T^15 at bit 15. -/
def zeroBytesCofactor : Fin 8 → Nat :=
  ![0x1113, 0x4E06, 0x1EF3, 0x08F2, 0x6A99, 0x2BC3, 0x1B39, 0x0B40]

theorem stepPoly_cofactor (k : Fin 8) (r : BitVec 16) :
    stepPoly (bitsW 16 (zeroBytesCofactor k)) (zeroBits 0x1021 (8 * (k + 1)) r ^^^ r) =
      crcRegisterStep 0x1021 r false ^^^ r := by
  have hbasis : ∀ k : Fin 8, ∀ i : Fin 16,
      stepPoly (bitsW 16 (zeroBytesCofactor k))
          (zeroBits 0x1021 (8 * (k + 1)) (BitVec.twoPow 16 i) ^^^ BitVec.twoPow 16 i) =
        crcRegisterStep 0x1021 (BitVec.twoPow 16 i) false ^^^ BitVec.twoPow 16 i := by
    decide +kernel
  refine eq_of_xor_linear
    (f := fun r =>
      stepPoly (bitsW 16 (zeroBytesCofactor k)) (zeroBits 0x1021 (8 * (k + 1)) r ^^^ r))
    (g := fun r => crcRegisterStep 0x1021 r false ^^^ r)
    (fun a b => ?_) (fun a b => ?_) (hbasis k) r
  · rw [← stepPoly_xor, zeroBits_xor]
    congr 1
    ac_rfl
  · rw [crcRegisterStep_false_xor]
    ac_rfl

/-- The values one zero bit leaves (R58 item 7): with the top bit clear a shift alone leaves 0 only,
and 0xF01F takes the top bit away. -/
theorem crcRegisterStep_fixed_iff {r : BitVec 16} :
    crcRegisterStep 0x1021 r false = r ↔ r = 0 ∨ r = 0xF01F := by
  have hclear {r : BitVec 16} (htop : r.getLsbD 15 = false)
      (h : crcRegisterStep 0x1021 r false = r) : r = 0 := by
    rw [crcRegisterStep, htop, Bool.xor_false, if_neg Bool.false_ne_true] at h
    have hval := congrArg BitVec.toNat h
    rw [BitVec.toNat_shiftLeft, Nat.shiftLeft_eq] at hval
    exact BitVec.eq_of_toNat_eq (show r.toNat = 0 by omega)
  have hF01F : crcRegisterStep 0x1021 0xF01F false = 0xF01F := by decide
  constructor
  · intro h
    cases htop : r.getLsbD 15 with
    | false => exact .inl (hclear htop h)
    | true =>
      refine .inr (BitVec.xor_eq_zero_iff.1 (hclear ?_ ?_))
      · rw [BitVec.getLsbD_xor, htop]
        decide
      · rw [crcRegisterStep_false_xor, h, hF01F]
  · rintro (rfl | rfl)
    · decide
    · exact hF01F

/-- One to eight zero bytes leave just the values one zero bit leaves. -/
theorem zeroBits_fixed_iff {k : Nat} (hk : 1 ≤ k) (hk8 : k ≤ 8) {r : BitVec 16} :
    zeroBits 0x1021 (8 * k) r = r ↔ crcRegisterStep 0x1021 r false = r := by
  refine ⟨fun h => ?_, fun h => zeroBits_of_fixed h _⟩
  obtain ⟨k, rfl⟩ := Nat.exists_eq_add_of_le' hk
  have hcofactor := stepPoly_cofactor ⟨k, by omega⟩ r
  rw [h, BitVec.xor_self] at hcofactor
  have hzero : stepPoly (bitsW 16 (zeroBytesCofactor ⟨k, by omega⟩)) 0 = 0 := by
    simpa using stepPoly_xor (bitsW 16 (zeroBytesCofactor ⟨k, by omega⟩)) 0 0
  exact BitVec.xor_eq_zero_iff.1 (hcofactor.symm.trans hzero)

/-! ### The statements -/

/-- Settles O28: the division is the register form, and the register holds the remainder. -/
theorem crcIsPolynomialRemainder : Obligations.CrcIsPolynomialRemainder := by
  intro m poly
  rw [crc16_eq_crcRegister]
  exact exists_quotient_crcRegister poly m

/-- Settles O30: the register starts at 0, which zeros leave, and its step is linear; on
`0^10 1` it makes one step with feedback, from 0. -/
theorem crcArithmeticLaws : Obligations.CrcArithmeticLaws := by
  intro poly
  refine ⟨fun k m => crc16_zeros_append k m poly, fun a b hlen => ?_, fun n => ?_, ?_⟩
  · simp only [crc16_eq_crcRegister, crcRegister]
    exact foldl_crcRegisterStep_xor poly hlen 0 0
  · have h := crc16_zeros_append n [] poly
    rw [List.append_nil] at h
    rw [h, crc16_eq_crcRegister]
    rfl
  · rw [show bitsW 11 1 = List.replicate 10 false ++ [true] by decide, crc16_zeros_append,
      crc16_eq_crcRegister]
    simp [crcRegister, crcRegisterStep]

/-- Settles O31: appended zeros are register steps, and the cofactors leave only the two values one
step leaves. -/
theorem crcOfAppendedZeroBytes : Obligations.CrcOfAppendedZeroBytes := by
  refine ⟨crc16_append_zeros, fun m k hk hk8 => ?_⟩
  rw [crc16_append_zeros, zeroBits_fixed_iff hk hk8, crcRegisterStep_fixed_iff]

end Sys2Proof.Machine

/-! ## Family other: frames through the codec (R42, R43, R66 to R69) -/

namespace Sys2Proof.Machine

/-! ### The CRC message as a function of the frame -/

/-- The CRC message depends on the identifier, DLC and the payload bytes below DLC only (R50). -/
theorem crcMsg_congr {s u : State} (hid : u.id = s.id) (hdlc : u.dlc = s.dlc)
    (hdata : ∀ k < s.dlc.toNat, u.dataByte k = s.dataByte k) : crcMsg u = crcMsg s := by
  have hbytes : (List.range s.dlc.toNat).flatMap (fun k => bitsW 8 (u.dataByte k).toNat) =
      (List.range s.dlc.toNat).flatMap fun k => bitsW 8 (s.dataByte k).toNat :=
    List.flatMap_congr fun k hk => by rw [hdata k (List.mem_range.1 hk)]
  rw [crcMsg, crcMsg, hid, hdlc, hbytes]

theorem crcValue_congr (fe : Bool) {s u : State} (hid : u.id = s.id) (hdlc : u.dlc = s.dlc)
    (hpoly : u.poly = s.poly) (hdata : ∀ k < s.dlc.toNat, u.dataByte k = s.dataByte k) :
    crcValue fe u = crcValue fe s := by
  rw [crcValue, crcValue, crcMsg_congr hid hdlc hdata, hpoly]

/-! ### Reading a serialised frame -/

/-- A field that holds a register's bits reads back as the register. -/
theorem frameField_of_slice {x : Bits} {i w : Nat} {v : BitVec w}
    (h : slice x i w = bitsW w v.toNat) : frameField w x i = v := by
  rw [frameField, h, intOf_bitsW, Nat.mod_eq_of_lt v.isLt, BitVec.ofNat_toNat, BitVec.setWidth_eq]

/-- The payload a serialised frame carries: the bytes below DLC and then zeros (R51). -/
def carriedData (s : State) : Vector (BitVec 8) 8 :=
  Vector.ofFn fun k => if k.val < s.dlc.toNat then s.data[k] else 0

theorem carriedData_getElem (s : State) (k : Fin 8) :
    (carriedData s)[k] = if k.val < s.dlc.toNat then s.data[k] else 0 := by
  simp [carriedData]

/-- Unpacking the serialised frame of `s` in any block gives the frame of `s` (R67). -/
theorem execUnpack_of_rawString_eq {s u : State} (hlen : u.rawLen.toNat = 116)
    (h : rawString u = frameString s) :
    execUnpack u = .next
      ((u.setFrame s.id (carriedData s) s.ack s.crc s.round s.sender).setStatus .clear) := by
  have hdata : (Vector.ofFn fun k : Fin 8 => frameField 8 (frameString s) (11 + 8 * k.val)) =
      carriedData s := by
    refine congrArg Vector.ofFn (funext fun k => ?_)
    exact frameField_of_slice (frameString_slice_payload s k)
  rw [execUnpack_of_rawLen_eq hlen, h, hdata, frameField_of_slice (frameString_slice_id s),
    frameField_of_slice (frameString_slice_ack s), frameField_of_slice (frameString_slice_crc s),
    frameField_of_slice (frameString_slice_round s),
    frameField_of_slice (frameString_slice_sender s)]

/-- What PACK leaves in RAW reads back as the serialised frame (R66). -/
theorem bufGet_bufPut_frameString (s : State) :
    bufGet (bufPut (frameString s)) 116 = frameString s := by
  simpa using bufGet_bufPut (x := frameString s) (by simp)

/-! ### Stuffing a serialised frame -/

theorem stuffBits_frameString_length (s : State) :
    116 ≤ (stuffBits (frameString s)).length ∧ (stuffBits (frameString s)).length ≤ 139 := by
  have hge := length_le_stuffBits_length (frameString s)
  have hle := stuffBits_length_le (frameString s)
  rw [frameString_length] at hge hle
  exact ⟨hge, hle⟩

/-- STUFF of a serialised frame never overflows (R65). -/
theorem execStuff_of_rawString_eq {s p : State} (hlen : p.rawLen.toNat = 116)
    (h : rawString p = frameString s) :
    execStuff p = .next ((p.setStf (bufPut (stuffBits (frameString s)))
      (BitVec.ofNat 8 (stuffBits (frameString s)).length)).setStatus .clear) := by
  have hfit := (stuffBits_frameString_length s).2
  rw [← h] at hfit ⊢
  exact execStuff_of_fits (by omega) (by omega)

/-- DESTUFF of a stuffed frame gives the serialised frame, in any block that holds the string. -/
theorem execDestuff_of_stfString_eq {s r : State} (hlen : r.stfLen.toNat ≤ 160)
    (h : stfString r = stuffBits (frameString s)) :
    execDestuff r = .next ((r.setRaw (bufPut (frameString s)) 116).setStatus .clear) := by
  rw [execDestuff_of_stfLen_le hlen, h, destuffBits_stuffBits, frameString_length]
  rfl

/-! ### The check at the receiver -/

/-- With the sender's identifier, DLC, carried payload and POLY, CRC_CHECK computes the sender's CRC
and compares it with the carried one (R61). -/
theorem crcCheck_of_frame {s v : State} (hdlc8 : s.dlc.toNat ≤ 8) (hid : v.id = s.id)
    (hdlc : v.dlc = s.dlc) (hdata : v.data = carriedData s) (hcrc : v.crc = s.crc)
    (hpoly : v.poly = s.poly) :
    ∃ c, exec (.crcCheck false) v = .next c ∧
      (c.status.matched = true ↔ s.crc = crc16 (crcMsg s) s.poly) := by
  have hvalue : crcValue false v = crcValue false s := by
    refine crcValue_congr false hid hdlc hpoly fun k hk => ?_
    have hbyte := carriedData_getElem s ⟨k, by omega⟩
    rw [if_pos hk, ← dataByte_eq_getElem, ← hdata, ← dataByte_eq_getElem] at hbyte
    exact hbyte
  refine ⟨_, execCrcCheck_of_dlc_le false (hdlc ▸ hdlc8), ?_⟩
  rw [State.setStatus_status, Status.ofMatch, beq_iff_eq, hvalue, crcValue_of_not_fe s rfl, hcrc,
    eq_comm]

/-! ### The statements -/

/-- Settles O39: the string PACK leaves is the sender's serialised frame, whose fields UNPACK
reads. -/
theorem unpackUndoesPack : Obligations.UnpackUndoesPack := by
  intro s u hdlc t ht hraw hlen
  rw [exec, execPack_of_dlc_le hdlc] at ht
  cases ht
  have hlen116 : u.rawLen = 116 := hlen
  have hstring : rawString u = frameString s := by
    rw [rawString, hraw, hlen116]
    exact bufGet_bufPut_frameString s
  exact ⟨_, execUnpack_of_rawString_eq (by rw [hlen116]; rfl) hstring, rfl, rfl, rfl, rfl, rfl, rfl,
    rfl, carriedData_getElem s⟩

/-- Settles O45: the sender's RAW and the receiver's, after DESTUFF, hold one string, the sender's
serialised frame. -/
theorem frameTravelsThroughCodec : Obligations.FrameTravelsThroughCodec := by
  intro s hdlc
  obtain ⟨hge, hle⟩ := stuffBits_frameString_length s
  have hfit : (stuffBits (frameString s)).length ≤ 160 := by omega
  have hn := toNat_bufLen hfit
  refine ⟨_, _, execPack_of_dlc_le hdlc,
    execStuff_of_rawString_eq rfl (bufGet_bufPut_frameString s), rfl, hn.ge.trans' hge,
    hn.le.trans hle, fun r hstf hlen => ?_⟩
  have hstring : stfString r = stuffBits (frameString s) := by
    rw [stfString, hstf, hlen]
    exact bufGet_bufPut_bufLen hfit
  have hrlen : r.stfLen.toNat ≤ 160 := by
    rw [hlen]
    exact hn.le.trans hfit
  refine ⟨_, _, execDestuff_of_stfString_eq hrlen hstring,
    execUnpack_of_rawString_eq rfl (bufGet_bufPut_frameString s), rfl, rfl, rfl, rfl, rfl, rfl, rfl,
    carriedData_getElem s, fun hpoly => ?_⟩
  exact crcCheck_of_frame hdlc rfl rfl rfl rfl hpoly

end Sys2Proof.Machine

/-! ## Family other: what commands read and write, and the invariant (R18, R23 to R25, R33) -/

namespace Sys2Proof.Machine

/-! ### The results of a command

A command that succeeds computes values from some registers and writes them to others. Here the two
states are apart: the values come from `s` and are written into `u`. -/

/-- `u` with the results written that command `i` computes from `s` when no check of it fails. -/
def writeResults (i : Instr) (s u : State) : State :=
  match i with
  | .nop => u.setStatus .clear
  | .crcGen fe => ((u.setCrc (crcValue fe s)).setCrcCalc (crcValue fe s)).setStatus .clear
  | .crcCheck fe => (u.setCrcCalc (crcValue fe s)).setStatus (.ofMatch (crcValue fe s == s.crc))
  | .pack => (u.setRaw (bufPut (frameString s)) 116).setStatus .clear
  | .unpack =>
    (u.setFrame (frameField 11 (rawString s) 0)
      (Vector.ofFn fun k => frameField 8 (rawString s) (11 + 8 * k.val))
      (frameField 1 (rawString s) 75) (frameField 16 (rawString s) 76)
      (frameField 16 (rawString s) 92) (frameField 8 (rawString s) 108)).setStatus .clear
  | .stuff =>
    (u.setStf (bufPut (stuffBits (rawString s)))
      (BitVec.ofNat 8 (stuffBits (rawString s)).length)).setStatus .clear
  | .destuff =>
    (u.setRaw (bufPut (destuffBits (stfString s)))
      (BitVec.ofNat 8 (destuffBits (stfString s)).length)).setStatus .clear
  | .idStuff =>
    (u.setIds (BitVec.ofNat 16 (intOf (stuffBits (idString s.id))))
      (BitVec.ofNat 5 (stuffBits (idString s.id)).length)).setStatus .clear
  | .idExtract => (u.setId (BitVec.ofNat 11 (intOf (destuffBits (idsString s))))).setStatus .clear
  | .arbitrate sm =>
    if s.contMask = 0 then
      ((u.setArb 0 0 0 0).setHist (historyOf []) (historyOf [])).setStatus .nothing
    else
      ((u.setArb (BitVec.ofNat 5 (lowest (survivors sm s))) (survivors sm s)
            (s.contMask &&& ~~~survivors sm s) (BitVec.ofNat 5 (arbW sm s))).setHist
          (historyOf ((arbHistory sm s).map Prod.fst))
          (historyOf ((arbHistory sm s).map Prod.snd))).setStatus
        (.ofTie (decide (1 < popcount (survivors sm s))))

/-- A check whose code is not raised passed. -/
theorem not_of_ite_eq_zero {c : Prop} [Decidable c] {a b : Nat} (ha : a ≠ 0)
    (h : (if c then a else b) = 0) : ¬c ∧ b = 0 := by
  split at h
  · exact absurd h ha
  · exact ⟨‹_›, h⟩

/-- A command none of whose checks fails writes its results. -/
theorem exec_of_expectedCode_eq_zero {i : Instr} {s : State} (h : expectedCode i s = 0) :
    exec i s = .next (writeResults i s s) := by
  cases i with
  | nop | idStuff => rfl
  | crcGen fe | crcCheck fe | pack | unpack | destuff =>
    exact if_neg (not_of_ite_eq_zero (by decide) h).1
  | stuff | idExtract =>
    obtain ⟨hfirst, hrest⟩ := not_of_ite_eq_zero (by decide) h
    exact (if_neg hfirst).trans (if_neg (not_of_ite_eq_zero (by decide) hrest).1)
  | arbitrate sm =>
    by_cases hcont : s.contMask = 0
    · rw [writeResults, if_pos hcont]
      exact execArbitrate_of_contMask_eq_zero hcont
    · rw [writeResults, if_neg hcont]
      exact execArbitrate_of_contMask_ne_zero hcont

/-- A command takes a command error or writes its results. -/
theorem exec_next_writeResults {i : Instr} {s t : State} (h : exec i s = .next t) :
    (∃ e, t = s.setStatus (.ofError e)) ∨ (expectedCode i s = 0 ∧ t = writeResults i s s) := by
  obtain ⟨e, -, ht⟩ | ⟨hcode, -⟩ := exec_next_expectedCode h
  · exact .inl ⟨e, ht⟩
  · rw [exec_of_expectedCode_eq_zero hcode] at h
    cases h
    exact .inr ⟨hcode, rfl⟩

/-! ### The write set -/

theorem readReg_setStatus_of_ne (s : State) (st : Status) {r : Reg} (h : r ≠ .status) :
    readReg (s.setStatus st) r = readReg s r := by
  cases r <;> trivial

/-- Outside the write set of R25 the results are not seen: such a register is no field that is
written. -/
theorem readReg_writeResults_of_not_writes {i : Instr} {r : Reg} (s u : State)
    (h : commandWrites i r = false) : readReg (writeResults i s u) r = readReg u r := by
  cases i with
  | arbitrate sm =>
    rw [writeResults]
    split <;> cases r <;> trivial
  | _ => cases r <;> trivial

/-- Inside the write set of R25 nothing but the results is seen. -/
theorem readReg_writeResults_of_writes {i : Instr} {r : Reg} (s u v : State)
    (h : commandWrites i r = true) :
    readReg (writeResults i s u) r = readReg (writeResults i s v) r := by
  cases i with
  | arbitrate sm =>
    rw [writeResults, writeResults]
    split <;> cases r <;> trivial
  | _ => cases r <;> trivial

/-- Results written twice are results written once. -/
theorem writeResults_writeResults (i : Instr) (s u : State) :
    writeResults i s (writeResults i s u) = writeResults i s u := by
  cases i with
  | arbitrate sm =>
    rw [writeResults, writeResults]
    split <;> rfl
  | _ => rfl

theorem readReg_of_not_commandWrites {i : Instr} {s t : State} (h : exec i s = .next t) {r : Reg}
    (hr : commandWrites i r = false) : readReg t r = readReg s r := by
  obtain ⟨e, rfl⟩ | ⟨-, rfl⟩ := exec_next_writeResults h
  · exact readReg_setStatus_of_ne s _ (by rintro rfl; cases hr)
  · exact readReg_writeResults_of_not_writes s s hr

/-! ### The read set -/

/-- No command reads what it writes (R25), so that it can be repeated (R33). -/
theorem not_commandWrites_of_commandReads {i : Instr} {s : State} {r : Reg}
    (h : commandReads i s r = true) : commandWrites i r = false := by
  cases i <;> cases r <;> trivial

theorem setWidth_injective {w : Nat} (hw : w ≤ 32) :
    Function.Injective (BitVec.setWidth 32 : BitVec w → Word) := fun x y h => by
  apply BitVec.eq_of_toNat_eq
  rw [← BitVec.toNat_setWidth_of_le hw, h, BitVec.toNat_setWidth_of_le hw]

/-- A field that reads alike is equal. -/
theorem field_eq {w : Nat} {x y : BitVec w} (h : x.setWidth 32 = y.setWidth 32)
    (hw : w ≤ 32 := by decide) : y = x :=
  (setWidth_injective hw h).symm

theorem dataByte_eq_of_readReg {s u : State} {k : Nat} (hk : k < 8)
    (h : readReg s (.data ⟨k, hk⟩) = readReg u (.data ⟨k, hk⟩)) : u.dataByte k = s.dataByte k := by
  have hbyte : s.data[k] = u.data[k] := setWidth_injective (by decide) h
  simp [State.dataByte, hk, hbyte]

/-- The serialised frame depends on the frame registers, with the payload bytes below DLC only
(R51). -/
theorem frameString_congr {s u : State} (hid : u.id = s.id) (hdlc : u.dlc = s.dlc)
    (hack : u.ack = s.ack) (hcrc : u.crc = s.crc) (hround : u.round = s.round)
    (hsender : u.sender = s.sender) (hdata : ∀ k < s.dlc.toNat, u.dataByte k = s.dataByte k) :
    frameString u = frameString s := by
  have hslot : payloadSlot u = payloadSlot s := funext fun k => by
    rw [payloadSlot, payloadSlot, hdlc]
    split
    next hk => rw [hdata k hk]
    next => rfl
  rw [frameString, frameString, hslot, hid, hack, hcrc, hround, hsender]

/-- States that agree on a command's read set (R25) pass its checks together and give it the same
results. -/
theorem writeResults_congr {i : Instr} {s u : State}
    (h : ∀ r, commandReads i s r = true → readReg s r = readReg u r) (hok : expectedCode i s = 0) :
    expectedCode i u = 0 ∧ writeResults i u = writeResults i s := by
  have hpayload (hcheck : (if s.dlc.toNat > 8 then 2 else 0) = 0)
      (hread : ∀ k : Fin 8, k.val < s.dlc.toNat → commandReads i s (.data k) = true) :
      ∀ k < s.dlc.toNat, u.dataByte k = s.dataByte k := fun k hk => by
    have hle := (not_of_ite_eq_zero (by decide) hcheck).1
    exact dataByte_eq_of_readReg (by omega) (h (.data ⟨k, _⟩) (hread ⟨k, _⟩ hk))
  cases i with
  | nop => exact ⟨rfl, rfl⟩
  | crcGen fe =>
    have hdlc : u.dlc = s.dlc := field_eq (h .dlc rfl)
    have hvalue : crcValue fe u = crcValue fe s := crcValue_congr fe (field_eq (h .id rfl)) hdlc
      (field_eq (h .poly rfl)) (hpayload hok fun _ => decide_eq_true)
    exact ⟨by rw [expectedCode, hdlc]; exact hok,
      funext fun w => by rw [writeResults, writeResults, hvalue]⟩
  | crcCheck fe =>
    have hdlc : u.dlc = s.dlc := field_eq (h .dlc rfl)
    have hcrc : u.crc = s.crc := field_eq (h .crc rfl)
    have hvalue : crcValue fe u = crcValue fe s := crcValue_congr fe (field_eq (h .id rfl)) hdlc
      (field_eq (h .poly rfl)) (hpayload hok fun _ => decide_eq_true)
    exact ⟨by rw [expectedCode, hdlc]; exact hok,
      funext fun w => by rw [writeResults, writeResults, hvalue, hcrc]⟩
  | pack =>
    have hdlc : u.dlc = s.dlc := field_eq (h .dlc rfl)
    have hframe : frameString u = frameString s :=
      frameString_congr (field_eq (h .id rfl)) hdlc (field_eq (h .ack rfl)) (field_eq (h .crc rfl))
        (field_eq (h .round rfl)) (field_eq (h .sender rfl))
        (hpayload hok fun _ => decide_eq_true)
    refine ⟨by rw [expectedCode, hdlc]; exact hok, funext fun w => ?_⟩
    rw [writeResults, writeResults, hframe]
  | unpack | stuff =>
    have hlen : u.rawLen = s.rawLen := field_eq (h .rawLen rfl)
    have hraw : u.raw = s.raw := Vector.ext fun k hk => (h (.raw ⟨k, hk⟩) rfl).symm
    refine ⟨by simp only [expectedCode, hlen, hraw]; exact hok, funext fun w => ?_⟩
    simp only [writeResults, rawString, hlen, hraw]
  | destuff =>
    have hlen : u.stfLen = s.stfLen := field_eq (h .stfLen rfl)
    have hstf : u.stf = s.stf := Vector.ext fun k hk => (h (.stf ⟨k, hk⟩) rfl).symm
    refine ⟨by rw [expectedCode, hlen]; exact hok, funext fun w => ?_⟩
    simp only [writeResults, stfString, hlen, hstf]
  | idStuff =>
    have hid : u.id = s.id := field_eq (h .id rfl)
    exact ⟨rfl, funext fun w => by rw [writeResults, writeResults, hid]⟩
  | idExtract =>
    have hlen : u.idsLen = s.idsLen := field_eq (h .idsLen rfl)
    have hids : u.ids = s.ids := field_eq (h .ids rfl)
    refine ⟨by rw [expectedCode, hlen, hids]; exact hok, funext fun w => ?_⟩
    rw [writeResults, writeResults, idsString, idsString, hlen, hids]
  | arbitrate sm =>
    have hcont : u.contMask = s.contMask := (h .contMask rfl).symm
    have hids (k : Fin 32) (_ : s.contMask.getLsbD k = true) : u.slotId[k] = s.slotId[k] :=
      field_eq (h (.slotId k) rfl)
    refine ⟨rfl, funext fun w => ?_⟩
    rw [writeResults, writeResults, survivors_congr hcont hids, arbW_congr hcont hids,
      arbHistory_congr hcont hids, hcont]

/-! ### The invariant -/

/-- The registers of an arbitration's results and history (R23, R24). -/
def State.arbResults (s : State) : BitVec 5 × Word × Word × BitVec 5 × History × History :=
  (s.winSlot, s.survMask, s.loseMask, s.arbWidth, s.histCont, s.histBits)

theorem ArbConsistent.congr {s t : State} (hs : ArbConsistent s) (h : t.arbResults = s.arbResults) :
    ArbConsistent t := by
  simp only [State.arbResults, Prod.mk.injEq] at h
  obtain ⟨hwin, hsurv, hlose, hwidth, hcont, hbits⟩ := h
  obtain ⟨hlegal, hran, hnone, hdisjoint, hlowest, hopens, hchain, hcloses, hdriven, hunused⟩ := hs
  constructor <;> simpa only [State.contAt, State.bitsAt, hwin, hsurv, hlose, hwidth, hcont, hbits]

theorem State.Inv.congr {s t : State} (hs : s.Inv) (hstatus : t.status = s.status)
    (h : t.arbResults = s.arbResults) : t.Inv :=
  ⟨hstatus ▸ hs.status, hs.arb.congr h⟩

theorem statusConsistent_ofError (e : CmdError) : StatusConsistent (.ofError e) :=
  ⟨iff_of_true rfl e.code_ne_zero, e.code_toNat_bounds.2, le_rfl⟩

/-- Without ERR and a code only the count of the flags is left to check. -/
theorem statusConsistent_of_no_error {st : Status} (herr : st.err = false) (hcode : st.ecode = 0)
    (hone : st.matched.toNat + st.noneSet.toNat + st.tie.toNat ≤ 1) : StatusConsistent st := by
  refine ⟨?_, ?_, ?_⟩
  · simp [herr, hcode]
  · simp [hcode]
  · rw [herr, Bool.toNat_false]
    omega

theorem statusConsistent_clear : StatusConsistent .clear :=
  statusConsistent_of_no_error rfl rfl (by decide)

theorem statusConsistent_ofMatch (m : Bool) : StatusConsistent (.ofMatch m) :=
  statusConsistent_of_no_error rfl rfl (by cases m <;> decide)

theorem statusConsistent_nothing : StatusConsistent .nothing :=
  statusConsistent_of_no_error rfl rfl (by decide)

theorem statusConsistent_ofTie (t : Bool) : StatusConsistent (.ofTie t) :=
  statusConsistent_of_no_error rfl rfl (by cases t <;> decide)

/-- With no result and no history entry there is nothing to disagree. -/
theorem arbConsistent_of_zero {s : State} (hwin : s.winSlot = 0) (hsurv : s.survMask = 0)
    (hlose : s.loseMask = 0) (hwidth : s.arbWidth = 0) (hcont : ∀ p, s.contAt p = 0)
    (hbits : ∀ p, s.bitsAt p = 0) : ArbConsistent s := by
  constructor <;> simp [hwin, hsurv, hlose, hwidth, hcont, hbits]

theorem drivenBits_and_not (keys : List Bits) (p : Nat) (cont : Word) :
    drivenBits keys p cont &&& ~~~cont = 0 := by
  apply BitVec.eq_of_getLsbD_eq
  intro i hi
  rw [BitVec.getLsbD_and, BitVec.getLsbD_not, drivenBits_getLsbD _ _ _ _ hi]
  cases cont.getLsbD i <;> simp

/-- The results of a reduction agree with its history: the entries are the contender sets from
CONT_MASK on, each the wired-AND of the one before, and the last leaves the survivors (R74, R76). -/
theorem arbConsistent_arbitrated {sm : Bool} {s : State} (h : s.contMask ≠ 0) :
    ArbConsistent (arbitrated sm s) := by
  have hpos : 0 < arbW sm s := (by decide : 0 < 11).trans_le (le_arbW sm h)
  obtain ⟨-, hwin, hbelow⟩ := lowest_spec (survivors_ne_zero (sm := sm) h)
  refine ⟨?widthLegal, ?survivorIffRan, ?noneLeft, survivors_and_losers sm s, ?winnerLowest, ?opens,
      ?chain, ?closes, ?driven, ?unused⟩ <;>
    simp only [arbitrated_arbWidth h, arbitrated_winSlot h, arbitrated_contAt h,
      arbitrated_bitsAt h]
  case widthLegal => exact .inr ⟨le_arbW sm h, arbW_le sm h⟩
  case survivorIffRan => exact iff_of_true (survivors_ne_zero h) hpos.ne'
  case noneLeft => exact fun h0 => absurd h0 hpos.ne'
  case winnerLowest => exact fun _ => ⟨hwin, hbelow⟩
  case opens =>
    rw [if_pos hpos]
    exact fun _ => (survivors_or_contMask sm s).symm
  case chain =>
    intro p hp
    rw [if_pos hp, if_pos (by omega), if_pos (by omega), contendersAt]
  case closes =>
    intro p hp
    rw [if_pos (by omega), if_pos (by omega)]
    exact congrArg (contendersAt _ _) hp.symm
  case driven =>
    intro p
    split
    · exact drivenBits_and_not _ _ _
    · exact BitVec.zero_and
  case unused => exact fun p hp => ⟨if_neg hp.not_gt, if_neg hp.not_gt⟩

theorem inv_resetAt (page : Nat) : (State.resetAt page).Inv := by
  have hzero (p : Nat) : (Vector.replicate 16 (0 : Word))[p]?.getD 0 = 0 := by
    rw [Vector.getElem?_replicate]
    split <;> rfl
  exact ⟨statusConsistent_clear, arbConsistent_of_zero rfl rfl rfl rfl hzero hzero⟩

/-- Results keep the invariant: only ARBITRATE writes those of an arbitration, all of them. -/
theorem inv_writeResults (i : Instr) (s : State) {u : State} (hu : u.Inv) :
    (writeResults i s u).Inv := by
  cases i with
  | crcCheck fe => exact ⟨statusConsistent_ofMatch _, hu.arb.congr rfl⟩
  | arbitrate sm =>
    rw [writeResults]
    split
    next =>
      have hzero (p : Nat) : (historyOf [])[p]?.getD 0 = 0 := by
        by_cases hp : p < 16 <;> simp [historyOf, hp]
      exact ⟨statusConsistent_nothing, arbConsistent_of_zero rfl rfl rfl rfl hzero hzero⟩
    next hcont =>
      exact ⟨statusConsistent_ofTie _, (arbConsistent_arbitrated (sm := sm) hcont).congr rfl⟩
  | _ => exact ⟨statusConsistent_clear, hu.arb.congr rfl⟩

theorem inv_hostCommand {s t : State} {w : Word} (hs : s.Inv) (h : hostCommand exec s w = .next t) :
    t.Inv := by
  cases hw : decode w with
  | error e =>
    rw [hostCommand_error hw] at h
    cases h
    exact ⟨statusConsistent_ofError _, hs.arb.congr rfl⟩
  | ok i =>
    rw [hostCommand_ok hw] at h
    obtain ⟨e, rfl⟩ | ⟨-, rfl⟩ := exec_next_writeResults h
    · exact ⟨statusConsistent_ofError e, hs.arb.congr rfl⟩
    · exact inv_writeResults i s hs

/-- The host cannot write STATUS or a result of an arbitration (R13). -/
theorem inv_writeAt {s : State} (hs : s.Inv) (addr : Nat) (v : Word) : (writeAt s addr v).Inv := by
  unfold writeAt
  split
  next r _ => exact hs.congr (by cases r <;> rfl) (by cases r <;> rfl)
  next => exact hs

theorem hostRead_next {s t : State} {addr size : Nat} (h : hostRead s addr size = .next t) :
    t = s.observe (readAt s addr) := by
  unfold hostRead at h
  split at h <;> cases h
  rfl

theorem hostWrite_next {s t : State} {addr size : Nat} {v : Word}
    (h : hostWrite exec s addr size v = .next t) :
    hostCommand exec s v = .next t ∨ t = writeAt s addr v := by
  unfold hostWrite at h
  split at h
  · cases h
  · split at h
    · exact .inl h
    · cases h
      exact .inr rfl

/-! ### The statements -/

/-- Settles O13: a command succeeds or takes a command error, and ARBITRATE's running group is never
empty. -/
theorem everyCommandCompletes : Obligations.EveryCommandCompletes := exists_exec_next

/-- Settles O18: a command error writes STATUS only, and the results are not seen outside the write
set. -/
theorem commandsWriteOnlyTheirRegisters : Obligations.CommandsWriteOnlyTheirRegisters := by
  intro i s t h
  obtain ⟨hpend, hobs, hpage⟩ := exec_keeps_host h
  exact ⟨fun r hr => readReg_of_not_commandWrites h hr, hpage, hpend, hobs⟩

/-- Settles O19: the results are computed from the read set, and inside the write set nothing else
is seen. -/
theorem commandsReadOnlyTheirRegisters : Obligations.CommandsReadOnlyTheirRegisters := by
  intro i s u t hreads h herr
  obtain ⟨e, rfl⟩ | ⟨hok, rfl⟩ := exec_next_writeResults h
  · cases herr
  · obtain ⟨hoku, hsame⟩ := writeResults_congr hreads hok
    refine ⟨_, exec_of_expectedCode_eq_zero hoku, fun r hr => ?_⟩
    rw [hsame]
    exact readReg_writeResults_of_writes s u s hr

/-- Settles O20: no command has POLY, DLC, CONT_MASK or a SLOT_ID in its write set, and E_ILLEGAL
writes STATUS only. -/
theorem onlyHostWritesOperandRegisters : Obligations.OnlyHostWritesOperandRegisters := by
  intro s t w rest hp h
  rw [step_write_cmd hp] at h
  obtain ⟨hpend, -, hpage⟩ := hostCommand_keeps_host h
  have hkeep {r : Reg} (hr : ∀ i, commandWrites i r = false) : readReg t r = readReg s r := by
    cases hw : decode w with
    | ok i => exact readReg_of_not_commandWrites ((hostCommand_ok hw).symm.trans h) (hr i)
    | error e =>
      rw [hostCommand_error hw] at h
      cases h
      exact readReg_setStatus_of_ne _ _ (by rintro rfl; cases hr .nop)
  exact ⟨(field_eq (hkeep (r := .poly) fun _ => rfl)).symm,
    (field_eq (hkeep (r := .dlc) fun _ => rfl)).symm, hkeep (r := .contMask) fun _ => rfl,
    Vector.ext fun k hk => (field_eq (hkeep (r := .slotId ⟨k, hk⟩) fun _ => rfl)).symm, hpage,
    hpend⟩

/-- Settles O21: a failed command leaves STATUS, which no command sees; a command that succeeded
finds its read set as it was, so it computes the same results and writes them over themselves. -/
theorem repeatedCommandChangesNothing : Obligations.RepeatedCommandChangesNothing := by
  intro i s t h
  obtain ⟨e, rfl⟩ | ⟨hok, rfl⟩ := exec_next_writeResults h
  · rw [exec_setStatus, h]
  · obtain ⟨hokt, hsame⟩ := writeResults_congr (u := writeResults i s s)
      (fun r hr => (readReg_of_not_commandWrites h (not_commandWrites_of_commandReads hr)).symm) hok
    rw [exec_of_expectedCode_eq_zero hokt, hsame, writeResults_writeResults]

/-- Settles O23: after reset every result and history entry is 0. -/
theorem resetMeetsInvariant : Obligations.ResetMeetsInvariant := ⟨inv_resetAt, inv_resetAt 0⟩

/-- Settles O22: reset gives the invariant, a CMD write keeps it, and no other access touches STATUS
or an arbitration's results. -/
theorem stepKeepsInvariant : Obligations.StepKeepsInvariant := by
  intro s t hs h
  cases hp : s.pending with
  | nil =>
    rw [step_idle hp] at h
    cases h
    exact ⟨hs, rfl⟩
  | cons e rest =>
    have hnext : (s.setPending rest).Inv := hs.congr rfl rfl
    cases e with
    | reset =>
      rw [step_reset hp] at h
      cases h
      exact ⟨(inv_resetAt s.basePage).congr rfl rfl, rfl⟩
    | read addr size =>
      rw [step_read hp] at h
      rw [hostRead_next h]
      exact ⟨hnext.congr rfl rfl, rfl⟩
    | write addr size v =>
      rw [step_write hp] at h
      obtain h | rfl := hostWrite_next h
      · exact ⟨inv_hostCommand hnext h, (hostCommand_keeps_host h).2.2⟩
      · exact ⟨inv_writeAt hnext addr v, (writeAt_keeps_host _ addr v).2⟩

end Sys2Proof.Machine
